-- ==== Sys2Proof/Word.lean ====
section
/-! DEFINITION. The characters of the lines and the sixteen-flag sets of the TF-316, as bit vectors. Everything
the manual counts or measures is a plain number (spec/00_scope.md, Integer arithmetic). -/

namespace Sys2Proof

/-- One character of the section line, the drive link or the start memory (R29, R186, R190). -/
abbrev Byte := BitVec 8

/-- A set of fault kinds: sixteen flags, kind x in bit x − 1 (R190). -/
abbrev KindSet := BitVec 16

end Sys2Proof
end

