-- ==== Sys2Proof/Syntax.lean ====
section
/-! DEFINITION. The commands of the TF-316: one constructor of `Instr` per row of spec/opcode_table.json. The table
gives its rows no fields; the operands here are what each event carries under the rules named beside it. -/

namespace Sys2Proof

/-- The pieces of work that fall in one evaluation (spec/95, EVALUATION). The manual leaves their order open where
no rule fixes it (R87, R112, R164), so the EVALUATION command carries the order in which they are taken. -/
inductive EvalWork where
  /-- the drive link closes its accumulator (R22) -/
  | accumulatorClose
  /-- the drive link's notice that the stale run has become 3 (R23) -/
  | staleNotice
  /-- the mode controller's fade step (R103, R104) -/
  | fadeStep
  /-- the balance engine's work (R71 to R86) -/
  | balanceEngine
  /-- the draw verifier's work (R116) -/
  | drawVerifier
  /-- the excitation unit's work (R133 to R135, R139) -/
  | excitationUnit
  /-- the coupling observer's work (R150) -/
  | couplingObserver
  deriving DecidableEq, Repr

/-- What every DIRECTIVE frame carries besides its kind and arguments (R30, R192): the moment it is judged good
(in microseconds, for the watchdogs' remaining times of R68), the terminal's station bits of the contention field,
the target and the tag. -/
structure DirectiveHead where
  moment   : Nat
  terminal : BitVec 6
  target   : Byte
  tag      : Byte
  deriving DecidableEq, Repr

/-- A watchdog deadline reached (R58, R59): the moment, in microseconds, and the station whose entry it is. -/
structure WatchdogDue where
  moment  : Nat
  station : Nat
  deriving DecidableEq, Repr

/-- An event taken at an evaluation after its work is complete and before its REFERENCE frame is formed (R26, R87,
R108, R112): each carries what its own command carries. -/
inductive LateEvent where
  /-- a gate end (R1) -/
  | gateEnd
  /-- characters of a TORQUE frame (R17) -/
  | torqueFrame (chars : List Byte)
  /-- a gap that cuts an open TORQUE frame off (R17) -/
  | torqueGapCutOff
  /-- a character with a framing error (R17) -/
  | torqueFramingError
  /-- a frame on the section line, a directive or a report among them (R35) -/
  | goodFrame (moment : Nat) (chars : List Byte)
  /-- a frame judged bad (R33) -/
  | badFrame
  /-- a watchdog deadline reached (R59) -/
  | watchdogExpiry (due : WatchdogDue)
  /-- a payload bit loss (R39) -/
  | payloadBitLoss
  /-- a faulty bit (R39) -/
  | faultyBitAbort
  /-- an attempt begun, its report's contents read then (R37, R42) -/
  | attempt
  /-- an ANSWER sent whole, a RESET's among them (R44) -/
  | answerSent
  deriving DecidableEq, Repr

/-- An event that changes the peer table and may fall within an evaluation (R66): each carries what its own command
carries. -/
inductive TableEvent where
  /-- a report's frame (R50) -/
  | report (moment : Nat) (station : BitVec 6) (payload : List Byte)
  /-- a frame judged bad, which may lose the step (R33, R61) -/
  | badFrame
  /-- an attempt aborted for a faulty bit, which may lose the step (R39, R61) -/
  | faultyBitAbort
  /-- a watchdog deadline reached (R59) -/
  | watchdogExpiry (due : WatchdogDue)
  deriving DecidableEq, Repr

/-- An event of the peer table taken within an evaluation, before this work or while it is at its reading of the table:
the work has read the entries of the stations `read` by then, and reads the others after the event (R66). -/
structure Interruption where
  before : EvalWork
  event  : TableEvent
  read   : List Nat
  deriving DecidableEq, Repr

/-- The course of one evaluation: the order of its works, the events of the peer table within them, and the events taken
between them and its REFERENCE frame. -/
structure Schedule where
  order  : List EvalWork
  during : List Interruption := []
  late   : List LateEvent := []
  deriving DecidableEq, Repr

/-- The commands and events of the node, in the table's order. -/
inductive Instr where
  /-- HARDWARE_RESET (R186): power-on or release of the reset pin. -/
  | hardwareReset
  /-- RESET_PIN_ASSERTED (R96): the reset pin is held asserted. -/
  | resetPinAsserted
  /-- START_CHECK (R187): the record read completes with these 48 bytes. -/
  | startCheck (record : List Byte)
  /-- SOFT_START_END (R189): the start image has been reapplied. -/
  | softStartEnd
  /-- ENCODER_EDGE (R1): one transition of the encoder channel. -/
  | encoderEdge
  /-- GATE_END (R1): the gate length has elapsed. -/
  | gateEnd
  /-- TORQUE_FRAME (R17, R19, R194): the characters that arrive from the drive of a frame's four fields, in this order,
  at most five in all; of a frame that breaks off, the fields not reached have none. The receiver takes them one by
  one. -/
  | torqueFrame (start word flags sum : List Byte)
  /-- TORQUE_GAP_CUT_OFF (R17): an open TORQUE frame's next character does not begin in time. -/
  | torqueGapCutOff
  /-- EVALUATION (R95): the report-period timer expires, and the evaluation takes this course. -/
  | evaluation (course : Schedule)
  /-- REPORT_ARRIVAL (R50): a REPORT frame of this station and payload, at this moment in microseconds. -/
  | reportArrival (moment : Nat) (station : BitVec 6) (payload : List Byte)
  /-- GOOD_FRAME (R35): any frame, as the characters the receiver reads from delimiter to delimiter. -/
  | goodFrame (moment : Nat) (chars : List Byte)
  /-- BAD_FRAME (R33): a frame judged bad at its first failing character. -/
  | badFrame
  /-- WATCHDOG_EXPIRY (R59): the armed deadline of this station's entry is reached at this moment. -/
  | watchdogExpiry (due : WatchdogDue)
  /-- ATTEMPT (R37): the transmitter begins an attempt on the idle line. -/
  | attempt
  /-- CONTENTION_LOST (R38): a recessive bit reads dominant during contention. -/
  | contentionLost
  /-- PAYLOAD_BIT_LOSS (R39): a recessive bit reads dominant after contention is won. -/
  | payloadBitLoss
  /-- FAULTY_BIT_ABORT (R39): a dominant bit reads recessive. -/
  | faultyBitAbort
  /-- REPORT_SENT (R43): a REPORT frame has been sent whole. -/
  | reportSent
  /-- ANSWER_SENT (R44): an ANSWER frame has been sent whole. -/
  | answerSent
  /-- SET_MODE (R100): argument characters as received. -/
  | setMode (head : DirectiveHead) (args : List Byte)
  /-- LOAD_PATTERN (R127). -/
  | loadPattern (head : DirectiveHead) (args : List Byte)
  /-- START_TEST (R130). -/
  | startTest (head : DirectiveHead) (args : List Byte)
  /-- STOP_TEST (R141). -/
  | stopTest (head : DirectiveHead) (args : List Byte)
  /-- CLEAR_FAULTS (R171). -/
  | clearFaults (head : DirectiveHead) (args : List Byte)
  /-- TUNE (R179): the item code, then the value characters. -/
  | tune (head : DirectiveHead) (item : Byte) (value : List Byte)
  /-- TUNE_GATE_PIN (R180): TUNE with item 10. -/
  | tuneGatePin (head : DirectiveHead) (value : List Byte)
  /-- TUNE_DETECT_MASK (R162): TUNE with item 11. -/
  | tuneDetectMask (head : DirectiveHead) (value : List Byte)
  /-- TUNE_SIGNAL_MASK (R162): TUNE with item 12. -/
  | tuneSignalMask (head : DirectiveHead) (value : List Byte)
  /-- READ_NODE (R182): READ with item 1; the characters after the item code. -/
  | readNode (head : DirectiveHead) (index : List Byte)
  /-- READ_PEER (R68): READ with item 2. -/
  | readPeer (head : DirectiveHead) (index : List Byte)
  /-- READ_PEER_NEXT (R69): READ with item 3. -/
  | readPeerNext (head : DirectiveHead) (index : List Byte)
  /-- READ_FAULTS (R173): READ with item 4. -/
  | readFaults (head : DirectiveHead) (index : List Byte)
  /-- READ_COUNTS (R173): READ with item 5. -/
  | readCounts (head : DirectiveHead) (index : List Byte)
  /-- READ_FIRST_TRIP (R173): READ with item 6. -/
  | readFirstTrip (head : DirectiveHead) (index : List Byte)
  /-- READ_FIRST_WARN (R173): READ with item 7. -/
  | readFirstWarn (head : DirectiveHead) (index : List Byte)
  /-- READ_PATTERN (R143): READ with item 8. -/
  | readPattern (head : DirectiveHead) (index : List Byte)
  /-- READ_VERDICT (R143): READ with item 9. -/
  | readVerdict (head : DirectiveHead) (index : List Byte)
  /-- READ_TUNING (R182): READ with item 10. -/
  | readTuning (head : DirectiveHead) (index : List Byte)
  /-- READ_SNAPSHOT (R183): READ with item 11. -/
  | readSnapshot (head : DirectiveHead) (index : List Byte)
  /-- SNAPSHOT (R183). -/
  | snapshot (head : DirectiveHead) (args : List Byte)
  /-- RESET (R184). -/
  | reset (head : DirectiveHead) (args : List Byte)
  /-- UNKNOWN_KIND (R175): a directive of this kind code, none of R192's nine. -/
  | unknownKind (head : DirectiveHead) (kind : Byte) (args : List Byte)
  /-- TORQUE_FRAMING_ERROR (R17): a character from the drive arrives with a framing error. -/
  | torqueFramingError
  /-- LINE_IDLE (R31): the twelfth recessive bit time in a row. -/
  | lineIdle
  deriving DecidableEq, Repr

end Sys2Proof
end

