-- ==== Sys2Proof/Decode.lean ====
section
/-! DEFINITION. The command that a word of the table's bits spells. spec/opcode_table.json gives no row any bits, so
no word spells a command (log entry 16). -/

namespace Sys2Proof

/-- The command that the table's bits spell: none, whatever the word. -/
def decodeTableWord (_nbits _w : Nat) : Option Instr := none

end Sys2Proof
end

