-- ==== Sys2Proof/Config.lean ====
section
/-! DEFINITION. The constants the manual fixes for every TF-316. The node has no implementation-defined value: what
varies from node to node is the start record (R191), which is state. -/

namespace Sys2Proof.Config

/-- Edge count at which a gate's counter saturates: 2²⁴ − 1 (R1). -/
def edgeCountMax : Nat := 16777215

/-- Largest surface speed, mm/s (R3). -/
def speedMax : Nat := 40000

/-- Edges a gate must hold to be compared (R5, R6). -/
def thinGate : Nat := 16

/-- Gate length of a rung, ms (R2). -/
def gateLength (rung : Nat) : Nat := 2 * 2 ^ rung

/-- Torque frames the accumulator takes in one interval (R19). -/
def accumulatorMax : Nat := 255

/-- Torque limit, 0.01 % of rated (R20). -/
def torqueMax : Int := 30000

/-- Top of a 16-bit saturating counter (R18, R33, R177). -/
def counter16Max : Nat := 65535

/-- Top of an 8-bit saturating run, count or tally (R22, R47, R85, R86, R121, R163). -/
def runMax : Nat := 255

/-- Answers the queue holds (R177). -/
def queueDepth : Nat := 4

/-- Length of the start record, characters (R186). -/
def recordLength : Nat := 48

/-- Section line start delimiter (R190). -/
def startDelimiter : Byte := 0x5A

/-- Section line end delimiter (R190). -/
def endDelimiter : Byte := 0xA5

/-- Drive link TORQUE start character (R190). -/
def torqueStart : Byte := 0xD1

/-- Drive link REFERENCE start character (R190). -/
def referenceStart : Byte := 0xB2

/-- Stations a node may have: 1..40 (00_scope, Station numbers). -/
def nodeMax : Nat := 40

/-- The kinds that are TRIP class in every map and never masked: CONFIG and ID_CLASH (R161, R162). -/
def fixedKinds : KindSet := 0x0003

/-- The default classes of R160: CONFIG, ID_CLASH, DRIVE_LINK and SPEED_LOSS are TRIP. -/
def defaultClassMap : KindSet := 0x000F

/-- The default detect mask of R161: no kind. -/
def defaultDetectMask : KindSet := 0x0000

/-- The default signal mask of R161: LINE_CHECK alone. -/
def defaultSignalMask : KindSet := 0x8000

end Sys2Proof.Config
end

