-- ==== Sys2Proof/Machine/State.lean ====
section
/-! DEFINITION. The state of the node, block by block as spec/00_scope.md's block diagram gives it, as plain data,
and its value right after a hardware reset. -/

namespace Sys2Proof.Machine

/-! ### Names the manual gives -/

/-- The TRIM phases (R93). -/
inductive Phase where
  | fadeIn | full | fadeOut
  deriving DecidableEq, Repr

/-- The modes (R93); the TRIM phase is present exactly in TRIM. -/
inductive Mode where
  | start | hold | listen | report
  | trim (phase : Phase)
  | test
  deriving DecidableEq, Repr

/-- The sixteen fault kinds, in the order of their numbers (R160). -/
inductive Kind where
  | config | idClash | driveLink | speedLoss | lineStep | peerLost | peerUnsteady | groupShort
  | trimSaturated | shareTol | drawTol | torqueRange | testLimit | couplingMismatch | answerOverflow | lineCheck
  deriving DecidableEq, Repr

/-- Cause of a DRIVE_LINK notice (R21, R23). -/
inductive Cause where
  | stale | notReady
  deriving DecidableEq, Repr

/-- The tracker's states (Speed Measurement, Tracker state). -/
inductive TrackState where
  | standstill | acquire | locked
  deriving DecidableEq, Repr

/-- A test level (R126). -/
inductive Level where
  | minus | zero | plus
  deriving DecidableEq, Repr

/-- A sign: of a level step (R147). -/
inductive Sign where
  | up | down
  deriving DecidableEq, Repr

/-- The modes a REPORT frame can carry (R50). -/
inductive ReportMode where
  | report | trim | test
  deriving DecidableEq, Repr

/-- The fault summary (R170). -/
inductive Summary where
  | none | warn | trip
  deriving DecidableEq, Repr

/-- State of a peer entry (R48). -/
inductive PeerState where
  | absent | probation | qualified
  deriving DecidableEq, Repr

/-- A coupling verdict (R153). -/
inductive CouplingVerdict where
  | coupled | uncoupled | inverted | undetermined
  deriving DecidableEq, Repr

/-- Outcome of a test (R140). -/
inductive TestOutcome where
  | pass | fail | aborted
  deriving DecidableEq, Repr

/-- Outcome of a directive (R176). -/
inductive AnswerOutcome where
  | done | clamped | wrongMode | badValue | faultPending | unknown
  deriving DecidableEq, Repr

/-- Why a share result is unassessed (R74). -/
inductive ShareReason where
  | speed | torque | noGroup | inTest | short
  deriving DecidableEq, Repr

/-- Why a draw is unassessed (R119). -/
inductive DrawReason where
  | position | speed | noUpstream | slow
  deriving DecidableEq, Repr

/-- The receiver's states (R31); stopped in START and in HOLD (R29, R46). -/
inductive RxState where
  | stopped | waitIdle | ready | receiving
  deriving DecidableEq, Repr

/-- The receive step (R34). -/
inductive RxStep where
  | inStep | outOfStep
  deriving DecidableEq, Repr

/-- The transmitter's states (R37). -/
inductive TxState where
  | idle | deferring | contending | sending
  deriving DecidableEq, Repr

/-- What an attempt sends (R40). -/
inductive Source where
  | report | answer
  deriving DecidableEq, Repr

/-- Where START stands (R96): the reset pin held, the record being read, or the image being reapplied; `over` in
every other mode. -/
inductive StartPhase where
  | pinHeld | reading | reapplying | over
  deriving DecidableEq, Repr

/-- Why an entry of the peer table is demoted (R63). -/
inductive DemotionCause where
  | watchdog | outOfStep | unsteady
  deriving DecidableEq, Repr

/-! ### The start unit -/

/-- The tuning values in force (R88, R122, R157, R179). -/
structure Tuning where
  shareGain         : Nat
  deadband          : Nat
  rateLimit         : Nat
  trimLimit         : Nat
  shareTolerance    : Nat
  drawSetpoint      : Int
  drawTolerance     : Nat
  couplingWindow    : Nat
  couplingThreshold : Nat
  deriving DecidableEq, Repr

/-- The start image: the start record's fields after check and clamping (R188, R191). -/
structure Image where
  station       : Nat
  group         : Nat
  weight        : Nat
  position      : Nat
  period        : Nat
  passThreshold : Nat
  badThreshold  : Nat
  edgeScale     : Nat
  floorRung     : Nat
  topRung       : Nat
  lockBand      : Nat
  fadeLength    : Nat
  tuning        : Tuning
  classMap      : KindSet
  detectMask    : KindSet
  signalMask    : KindSet
  deriving DecidableEq, Repr

/-- The start-memory port as the node drives it (R186): whether the select is asserted, and the bytes sent since it
was, the read command and the two of the address. -/
structure MemoryPort where
  selected : Bool
  sent     : List Byte
  deriving DecidableEq, Repr

/-- The start unit: where START stands, the start-memory port, the start image (absent until a record has passed its
check), and the start-clamp flag (R186 to R188). -/
structure StartUnit where
  phase   : StartPhase
  port    : MemoryPort
  image   : Option Image
  clamped : Bool
  deriving DecidableEq, Repr

/-! ### The speed tracker -/

/-- The speed tracker (Speed Measurement, Tracker state; R1 to R16). -/
structure Tracker where
  state      : TrackState
  rung       : Nat
  edges      : Nat
  latest     : Option Nat
  comparison : Option Nat
  unlocked   : Nat
  emptyRun   : Nat
  excursions : Nat
  requested  : Option Nat
  pin        : Option Nat
  deriving DecidableEq, Repr

/-! ### The drive link -/

/-- The drive link (R17 to R28). `opened` holds the characters of the TORQUE frame open at the receiver, none while it
hunts; `sending` the REFERENCE frame being sent; `frame` is the model's own record of the latest one sent whole. -/
structure DriveLink where
  opened      : List Byte
  sum         : Int
  count       : Nat
  held        : Int
  staleRun    : Nat
  ready       : Bool
  posted      : Bool
  lastWord    : Int
  sending     : Option (List Byte)
  frame       : Option (List Byte)
  discards    : Nat
  framesTaken : BitVec 32
  deriving DecidableEq, Repr

/-! ### The section line -/

/-- An attempt in progress (R37): what it sends, and the frame's characters, fixed at its start (R42, R44). -/
structure Attempt where
  source : Source
  frame  : List Byte
  deriving DecidableEq, Repr

/-- The section line block (R29 to R46). -/
structure Line where
  rx          : RxState
  step        : RxStep
  badRun      : Nat
  tx          : TxState
  attempt     : Option Attempt
  reportDue   : Bool
  refill      : Bool
  sequence    : Byte
  goodFrames  : BitVec 32
  badFrames   : Nat
  reportsSent : BitVec 32
  deriving DecidableEq, Repr

/-! ### The peer table -/

/-- The shape of a report (R49). -/
structure Shape where
  group    : Nat
  weight   : Nat
  position : Nat
  period   : Nat
  deriving DecidableEq, Repr

/-- The contents of a report (R47, R50). -/
structure Contents where
  mode        : ReportMode
  speedValid  : Bool
  torqueStale : Bool
  summary     : Summary
  testRunning : Bool
  speed       : Nat
  torque      : Int
  trim        : Int
  testStep    : Nat
  testLevel   : Level
  countCode   : Byte
  deriving DecidableEq, Repr

/-- A report: sequence, shape and contents; in an entry, the stored report (R49). -/
structure Report where
  sequence : Byte
  shape    : Shape
  contents : Contents
  deriving DecidableEq, Repr

/-- One entry of the peer table (R47). -/
structure PeerEntry where
  state            : PeerState
  passCount        : Nat
  disqualification : Nat
  stored           : Option Report
  stale            : Bool
  deadline         : Option Nat
  marker           : Bool
  seen             : Nat
  contrary         : Nat
  quiet            : Nat
  missed           : Nat
  verdict          : Option CouplingVerdict
  deriving DecidableEq, Repr

/-! ### The balance engine and the mode controller -/

/-- The assessed or unassessed part of a share result (R89). -/
inductive ShareOutcome where
  | unassessed (reason : ShareReason)
  | assessed (torque : Int) (weight : Nat) (target error increment centering : Int)
  deriving DecidableEq, Repr

/-- The share result (R89). -/
structure ShareResult where
  evaluation : BitVec 32
  outcome    : ShareOutcome
  members    : Nat
  step       : Int
  deriving DecidableEq, Repr

/-- The balance engine (R71 to R92). -/
structure Balance where
  integrator    : Int
  saturationRun : Nat
  shareRun      : Nat
  groupShort    : Bool
  result        : Option ShareResult
  deriving DecidableEq, Repr

/-- The mode controller: mode with TRIM phase, authority count a, applied trim y, evaluations counter
(R93, R95, R105). -/
structure ModeControl where
  mode        : Mode
  authority   : Nat
  trim        : Int
  evaluations : BitVec 32
  deriving DecidableEq, Repr

/-! ### The draw verifier -/

/-- The assessed or unassessed part of a draw result (R123). -/
inductive DrawOutcome where
  | unassessed (reason : DrawReason)
  | assessed (ownSpeed : Nat) (draw : Int)
  deriving DecidableEq, Repr

/-- The draw result (R123). -/
structure DrawResult where
  evaluation    : BitVec 32
  outcome       : DrawOutcome
  upstreamCount : Nat
  upstreamSpeed : Option Nat
  run           : Nat
  deriving DecidableEq, Repr

/-- The draw verifier (R115 to R125). -/
structure Draw where
  run    : Nat
  result : Option DrawResult
  deriving DecidableEq, Repr

/-! ### The excitation unit -/

/-- The excitation pattern (R126). -/
structure Pattern where
  levels    : List Level
  hold      : Nat
  amplitude : Nat
  tolerance : Nat
  target    : Byte
  deriving DecidableEq, Repr

/-- The verdict record (R140). -/
structure Verdict where
  outcome  : TestOutcome
  count    : Nat
  steps    : Nat
  baseline : Nat
  deriving DecidableEq, Repr

/-- The excitation unit (R126, R129, R140). -/
structure Excitation where
  pattern     : Option Pattern
  running     : Bool
  stepIndex   : Nat
  position    : Nat
  baseline    : Nat
  count       : Nat
  limitPosted : Bool
  offset      : Int
  sentStep    : Nat
  sentLevel   : Level
  verdict     : Option Verdict
  deriving DecidableEq, Repr

/-! ### The coupling observer -/

/-- The observation slot (R147). While PENDING the successor is absent and the final mark clear. -/
inductive Slot where
  | empty
  | pending (peer : Nat) (sign : Sign) (remaining : Nat)
  | counting (peer : Nat) (sign : Sign) (baseline : Int) (remaining : Nat) (successor : Option Sign) (final : Bool)
  deriving DecidableEq, Repr

/-! ### The fault unit -/

/-- A fault notice (R160): kind, source and, for DRIVE_LINK, its cause. Its evaluation number is the counter's value
when it is taken. -/
structure Notice where
  kind   : Kind
  source : Nat
  cause  : Option Cause
  deriving DecidableEq, Repr

/-- A first-trip or first-warn record: EMPTY, LOCKED or RELEASED with its contents (R165, R167). -/
inductive Record (α : Type) where
  | empty
  | locked (contents : α)
  | released (contents : α)
  deriving DecidableEq, Repr

/-- Contents of the first-trip record (R165); the TRIM phase stands in `mode`. -/
structure TripContents where
  kind       : Kind
  source     : Nat
  evaluation : BitVec 32
  mode       : Mode
  speed      : Nat
  speedValid : Bool
  torque     : Int
  integrator : Int
  authority  : Nat
  testStep   : Option Nat
  cause      : Option Cause
  deriving DecidableEq, Repr

/-- Contents of the first-warn record (R167). -/
structure WarnContents where
  kind       : Kind
  source     : Nat
  evaluation : BitVec 32
  deriving DecidableEq, Repr

/-- The fault unit (R160 to R174), with the two fault lines (true: asserted, R169). -/
structure FaultUnit where
  status       : KindSet
  counts       : Vector Nat 16
  classMap     : KindSet
  detectMask   : KindSet
  signalMask   : KindSet
  firstTrip    : Record TripContents
  multipleTrip : Bool
  firstWarn    : Record WarnContents
  multipleWarn : Bool
  tripLine     : Bool
  warnLine     : Bool
  deriving DecidableEq, Repr

/-! ### The directive handler -/

/-- An answer, composed in full when its directive is taken (R176). `resets` marks the answer to a RESET, whose
sending triggers the soft reset (R44). -/
structure Answer where
  terminal : Byte
  tag      : Byte
  outcome  : AnswerOutcome
  data     : List Byte
  resets   : Bool
  deriving DecidableEq, Repr

/-- The snapshot of the live counter set (R183). -/
structure Snapshot where
  evaluations     : BitVec 32
  reportsSent     : BitVec 32
  goodFrames      : BitVec 32
  badFrames       : Nat
  torqueTaken     : BitVec 32
  torqueDiscarded : Nat
  directivesTaken : BitVec 16
  answersDropped  : Nat
  responseCount   : Nat
  deriving DecidableEq, Repr

/-- The directive handler (R175 to R185). -/
structure Handler where
  queue    : List Answer
  tuning   : Tuning
  taken    : BitVec 16
  dropped  : Nat
  snapshot : Option Snapshot
  deriving DecidableEq, Repr

/-! ### The node -/

/-- The whole node, and the commands waiting for it, first in first out. `clock` is the model's own: the latest
moment, in microseconds, that a received frame has carried. -/
structure State where
  pending    : List Instr
  clock      : Nat
  startUnit  : StartUnit
  tracker    : Tracker
  drive      : DriveLink
  line       : Line
  peers      : Vector PeerEntry 40
  balance    : Balance
  control    : ModeControl
  draw       : Draw
  excitation : Excitation
  observation : Slot
  fault      : FaultUnit
  handler    : Handler
  deriving DecidableEq, Repr

/-- What stops the machine with a fault. The manual names no event that does: a fault of the plant is a fault
notice, which is state (R160). Empty, so no step faults; safe, since nothing the manual describes is cut short. -/
inductive Fault where
  deriving DecidableEq, Repr

/-- Why a command has no meaning. -/
inductive Refusal where
  /-- Raised by an arm of exec whose command has no meaning in the model; safe, since the run stops there. No arm
  raises it: every row of the table has its meaning. -/
  | notModelled (mnemonic : String)
  deriving DecidableEq, Repr

/-! ### Reset values -/

/-- DESIGN CHOICE (log entry 8): the values that stand for a start image while there is none. s, f, t, λ and P are
R187's; class map and masks R161's; the draw setpoint D is 0; the rest is the low end of each range. Of them only
R187's and R161's are read while they stand. -/
def Image.fallback : Image :=
  { station := 0, group := 0, weight := 1, position := 0, period := 100, passThreshold := 1, badThreshold := 1,
    edgeScale := 1, floorRung := 0, topRung := 7, lockBand := 10, fadeLength := 1,
    tuning := { shareGain := 0, deadband := 0, rateLimit := 1, trimLimit := 0, shareTolerance := 10,
                drawSetpoint := 0, drawTolerance := 1, couplingWindow := 2, couplingThreshold := 10 },
    classMap := Config.defaultClassMap, detectMask := Config.defaultDetectMask,
    signalMask := Config.defaultSignalMask }

/-- The start-memory port at rest: the select released (R186). -/
def MemoryPort.idle : MemoryPort := { selected := false, sent := [] }

/-- The start-memory port while the record is read: the select asserted, the read command 03 hex and the address 0
sent (R186). -/
def MemoryPort.reading : MemoryPort := { selected := true, sent := [0x03, 0x00, 0x00] }

/-- The start unit after a hardware reset, with START at this place: no image, and the port selected exactly while the
record is read (R186). DESIGN CHOICE (log entry 28): the start-clamp flag is clear until the check sets it. -/
def StartUnit.atReset (phase : StartPhase) : StartUnit :=
  { phase := phase, port := if phase = .reading then .reading else .idle, image := none, clamped := false }

/-- The tracker after a reset, at the floor rung (R16). -/
def Tracker.atReset (floorRung : Nat) : Tracker :=
  { state := .acquire, rung := floorRung, edges := 0, latest := none, comparison := none, unlocked := 0,
    emptyRun := 0, excursions := 0, requested := none, pin := none }

/-- The drive link after a reset (R28). -/
def DriveLink.atReset : DriveLink :=
  { opened := [], sum := 0, count := 0, held := 0, staleRun := 1, ready := false, posted := false, lastWord := 0,
    sending := none, frame := none, discards := 0, framesTaken := 0 }

/-- The section line after a reset (R46). -/
def Line.atReset : Line :=
  { rx := .stopped, step := .inStep, badRun := 0, tx := .idle, attempt := none, reportDue := false, refill := false,
    sequence := 0, goodFrames := 0, badFrames := 0, reportsSent := 0 }

/-- A peer entry after a reset (R70). -/
def PeerEntry.atReset : PeerEntry :=
  { state := .absent, passCount := 0, disqualification := 0, stored := none, stale := false, deadline := none,
    marker := false, seen := 0, contrary := 0, quiet := 0, missed := 0, verdict := none }

/-- The balance engine after a reset (R92). -/
def Balance.atReset : Balance :=
  { integrator := 0, saturationRun := 0, shareRun := 0, groupShort := false, result := none }

/-- The mode controller after a reset (R95, R114). -/
def ModeControl.atReset : ModeControl := { mode := .start, authority := 0, trim := 0, evaluations := 0 }

/-- The draw verifier after a reset (R125). -/
def Draw.atReset : Draw := { run := 0, result := none }

/-- The excitation unit after a reset (R144), with the pattern that survives it. -/
def Excitation.atReset (pattern : Option Pattern) : Excitation :=
  { pattern := pattern, running := false, stepIndex := 0, position := 0, baseline := 0, count := 0,
    limitPosted := false, offset := 0, sentStep := 0, sentLevel := .zero, verdict := none }

/-- The fault unit after a hardware reset (R174), with these settings. -/
def FaultUnit.atReset (classMap detectMask signalMask : KindSet) : FaultUnit :=
  { status := 0, counts := Vector.replicate 16 0, classMap := classMap, detectMask := detectMask,
    signalMask := signalMask, firstTrip := .empty, multipleTrip := false, firstWarn := .empty,
    multipleWarn := false, tripLine := false, warnLine := false }

/-- The directive handler after a reset (R185), with these tuning values. -/
def Handler.atReset (tuning : Tuning) : Handler :=
  { queue := [], tuning := tuning, taken := 0, dropped := 0, snapshot := none }

/-- The node right after a hardware reset: START, with the read of the start record begun (R96, R186). DESIGN CHOICE
(log entry 28): the start-clamp flag stands clear until the start check. -/
def State.reset : State :=
  { pending := [], clock := 0,
    startUnit := StartUnit.atReset .reading,
    tracker := Tracker.atReset Image.fallback.floorRung, drive := DriveLink.atReset, line := Line.atReset,
    peers := Vector.replicate 40 PeerEntry.atReset, balance := Balance.atReset, control := ModeControl.atReset,
    draw := Draw.atReset, excitation := Excitation.atReset none, observation := .empty,
    fault := FaultUnit.atReset Config.defaultClassMap Config.defaultDetectMask Config.defaultSignalMask,
    handler := Handler.atReset Image.fallback.tuning }

end Sys2Proof.Machine
end

