-- ==== Sys2Proof/Machine/Operands.lean ====
section
/-! DEFINITION. Arithmetic of the manual's conventions, the encodings of R190 to R195, and the forms in which
operands arrive and leave: REPORT payloads, frames with their check word, the start record, patterns, float codes. -/

namespace Sys2Proof.Machine

/-! ### Arithmetic (00_scope, Conventions) -/

/-- "Clamped to" a range: the nearer end of it. -/
def clampInt (lo hi z : Int) : Int := max lo (min hi z)

/-- "Clamped to" a range of natural numbers. -/
def clampNat (lo hi n : Nat) : Nat := max lo (min hi n)

/-- One increment of a counter that saturates at `top`. -/
def satInc (top n : Nat) : Nat := min top (n + 1)

/-- "Truncated toward zero". -/
def truncDiv (z : Int) (d : Int) : Int := Int.tdiv z d

/-- "Rounded to nearest, halves away from zero", for a positive divisor. -/
def roundDiv (z : Int) (d : Nat) : Int := Int.sign z * (((2 * z.natAbs + d) / (2 * d) : Nat) : Int)

/-- ceil(n / d) for a positive divisor. -/
def ceilDiv (n d : Nat) : Nat := (n + (d - 1)) / d

/-! ### Characters (R190) -/

/-- A character. -/
def byte (n : Nat) : Byte := BitVec.ofNat 8 n

/-- A flag as one character (R193). -/
def flagByte (b : Bool) : Byte := if b then 1 else 0

/-- A two-byte field, most significant byte first. -/
def be16 (n : Nat) : List Byte := [byte (n / 256), byte n]

/-- A four-byte field, most significant byte first. -/
def be32 (n : Nat) : List Byte := [byte (n / 16777216), byte (n / 65536), byte (n / 256), byte n]

/-- A signed two-byte field, two's complement. -/
def be16s (z : Int) : List Byte := be16 (BitVec.ofInt 16 z).toNat

/-- A signed four-byte field, two's complement. -/
def be32s (z : Int) : List Byte := be32 (BitVec.ofInt 32 z).toNat

/-- Reading a two-byte field. -/
def u16 (hi lo : Byte) : Nat := hi.toNat * 256 + lo.toNat

/-- Reading a signed two-byte field. -/
def s16 (hi lo : Byte) : Int := (BitVec.ofNat 16 (u16 hi lo)).toInt

/-- An optional field: its presence byte, then the field (R192). -/
def optional : Option (List Byte) → List Byte
  | none => [0]
  | some bs => 1 :: bs

/-! ### Levels and signs -/

/-- A level as a number (R126). -/
def Level.toInt : Level → Int
  | .minus => -1
  | .zero => 0
  | .plus => 1

/-- A level as a signed byte (R192, REPORT byte 14). -/
def Level.toByte : Level → Byte
  | .minus => 0xFF
  | .zero => 0x00
  | .plus => 0x01

/-- Reading REPORT byte 14; every other value is outside its codes (R50). -/
def Level.ofByte? (b : Byte) : Option Level :=
  if b = 0xFF then some .minus else if b = 0x00 then some .zero else if b = 0x01 then some .plus else none

/-- A level's two-bit code in LOAD_PATTERN (R192). -/
def Level.code : Level → Nat
  | .minus => 3
  | .zero => 0
  | .plus => 1

/-- Reading a two-bit level code; 10 fails (R127, R192). -/
def Level.ofCode? : Nat → Option Level
  | 0 => some .zero
  | 1 => some .plus
  | 3 => some .minus
  | _ => none

/-- The sign of a level step, absent where the level is unchanged (R146). -/
def levelStep (old new : Level) : Option Sign :=
  if old.toInt < new.toInt then some .up else if new.toInt < old.toInt then some .down else none

/-- The expected sign of an observation's torque change, opposite to its step (R151). -/
def Sign.expected : Sign → Int
  | .up => -1
  | .down => 1

/-! ### Float code (R137, R138, R195) -/

/-- The value of a float code: mantissa in the high four bits, exponent in the low four. -/
def floatDecode (code : Byte) : Nat := (code.toNat / 16) * 2 ^ (code.toNat % 16)

/-- The smallest exponent from `e` on, at most `fuel` further, for which ceil(c / 2^e) is 15 or less, with that
mantissa. -/
def floatSearch (c : Nat) : Nat → Nat → Nat × Nat
  | 0, e => (15, e)
  | fuel + 1, e => if ceilDiv c (2 ^ e) ≤ 15 then (ceilDiv c (2 ^ e), e) else floatSearch c fuel (e + 1)

/-- The code of a count (R138). -/
def floatEncode (c : Nat) : Byte :=
  if 491520 < c then 0xFF
  else
    let me := floatSearch c 16 0
    byte (me.1 * 16 + me.2)

/-! ### Reports (R50, R192) -/

/-- A report mode's code. -/
def ReportMode.code : ReportMode → Nat
  | .report => 1
  | .trim => 2
  | .test => 3

/-- Reading a report mode's code. -/
def ReportMode.ofCode? : Nat → Option ReportMode
  | 1 => some .report
  | 2 => some .trim
  | 3 => some .test
  | _ => none

/-- A fault summary's code. -/
def Summary.code : Summary → Nat
  | .none => 0
  | .warn => 1
  | .trip => 2

/-- Reading a fault summary's code. -/
def Summary.ofCode? : Nat → Option Summary
  | 0 => some .none
  | 1 => some .warn
  | 2 => some .trip
  | _ => Option.none

/-- Byte 6 of REPORT, also the flags byte of PEER (R192, R193). -/
def Contents.flags (c : Contents) : Byte :=
  byte ((if c.speedValid then 1 else 0) + (if c.torqueStale then 2 else 0) + 4 * c.summary.code
    + (if c.testRunning then 16 else 0))

/-- The 16 characters of a REPORT payload (R192). -/
def composeReport (r : Report) : List Byte :=
  [r.sequence, byte r.shape.group, byte r.shape.weight, byte r.shape.position, byte r.shape.period,
    byte r.contents.mode.code, r.contents.flags]
    ++ be16 r.contents.speed ++ be16s r.contents.torque ++ be16s r.contents.trim
    ++ [byte r.contents.testStep, r.contents.testLevel.toByte, r.contents.countCode]

/-- Every field of a report within its range of R50. -/
def Report.inRange (r : Report) : Bool :=
  decide (r.shape.group ≤ 15) && decide (1 ≤ r.shape.weight) && decide (r.shape.weight ≤ 255)
    && decide (r.shape.position ≤ 40) && decide (5 ≤ r.shape.period) && decide (r.shape.period ≤ 100)
    && decide (r.contents.speed ≤ Config.speedMax)
    && decide (-Config.torqueMax ≤ r.contents.torque) && decide (r.contents.torque ≤ Config.torqueMax)
    && decide (-2000 ≤ r.contents.trim) && decide (r.contents.trim ≤ 2000)
    && decide (r.contents.testStep ≤ 31)

/-- The report a payload carries, or none where R50 refuses it. -/
def parseReport : List Byte → Option Report
  | [sq, gr, we, po, pe, mo, fl, v1, v0, t1, t0, w1, w0, st, lv, cc] =>
    match ReportMode.ofCode? mo.toNat, Summary.ofCode? (fl.toNat / 4 % 4), Level.ofByte? lv with
    | some mode, some summary, some level =>
      let r : Report :=
        { sequence := sq
          shape := { group := gr.toNat, weight := we.toNat, position := po.toNat, period := pe.toNat }
          contents :=
            { mode := mode, speedValid := fl.getLsbD 0, torqueStale := fl.getLsbD 1, summary := summary,
              testRunning := fl.getLsbD 4, speed := u16 v1 v0, torque := s16 t1 t0, trim := s16 w1 w0,
              testStep := st.toNat, testLevel := level, countCode := cc } }
      if r.inRange then some r else none
    | _, _, _ => none
  | _ => none

/-! ### Section line frames (R30, R32) -/

/-- The contention field of a class and a station (R30). -/
def contention (cls : BitVec 2) (station : BitVec 6) : Byte := cls ++ station

/-- The class of a contention field. -/
def frameClass (c : Byte) : Nat := c.toNat / 64

/-- The station of a contention field. -/
def frameStation (c : Byte) : Nat := c.toNat % 64

/-- One bit of the check word's division by x¹⁶ + x¹² + x⁵ + 1 (R30). -/
def crcBit (r : BitVec 16) : BitVec 16 := if r.msb then (r <<< 1) ^^^ 0x1021 else r <<< 1

/-- One character into the check word, most significant bit first. -/
def crcByte (r : BitVec 16) (b : Byte) : BitVec 16 :=
  Nat.repeat crcBit 8 (r ^^^ ((b.zeroExtend 16) <<< 8))

/-- The check word of the characters it is taken over, from an initial value of all ones (R30). -/
def crc (bs : List Byte) : BitVec 16 := bs.foldl crcByte 0xFFFF

/-- The class and station of a frame as R30 allows them. -/
def contentionOk (c : Byte) : Bool :=
  match frameClass c with
  | 0 => decide (60 ≤ frameStation c)
  | 1 => decide (1 ≤ frameStation c) && decide (frameStation c ≤ Config.nodeMax)
  | 2 => decide (1 ≤ frameStation c) && decide (frameStation c ≤ Config.nodeMax)
  | _ => false

/-- A payload length as R30 gives it for the frame's class. -/
def lengthOk (c : Byte) (n : Nat) : Bool :=
  match frameClass c with
  | 0 => decide (3 ≤ n) && decide (n ≤ 18)
  | 1 => decide (3 ≤ n) && decide (n ≤ 40)
  | 2 => decide (n = 16)
  | _ => false

/-- The characters of a frame (R30). -/
def frameChars (c : Byte) (payload : List Byte) : List Byte :=
  let body := c :: byte payload.length :: payload
  Config.startDelimiter :: body ++ be16 (crc body).toNat ++ [Config.endDelimiter]

/-- The judgement of R32 on the characters of a frame: its contention field and payload where it is good, none where
it is bad. -/
def judgeFrame : List Byte → Option (Byte × List Byte)
  | start :: c :: len :: rest =>
    if start = Config.startDelimiter ∧ contentionOk c = true ∧ lengthOk c len.toNat = true then
      let payload := rest.take len.toNat
      match rest.drop len.toNat with
      | [hi, lo, stop] =>
        if payload.length = len.toNat ∧ u16 hi lo = (crc (c :: len :: payload)).toNat
            ∧ stop = Config.endDelimiter then some (c, payload) else none
      | _ => none
    else none
  | _ => none

/-! ### The start record (R187, R188, R191) -/

/-- A byte of the record as clocked in; one the memory does not give reads FF hex (R186). -/
def recordByte (record : List Byte) (i : Nat) : Nat := ((record[i]?).getD 0xFF).toNat

/-- Word i of the record, less significant byte first (R187). -/
def recordWord (record : List Byte) (i : Nat) : Nat :=
  recordByte record (2 * i) + 256 * recordByte record (2 * i + 1)

/-- The sum of the 24 words, modulo 65536 (R187). -/
def recordSum (record : List Byte) : Nat :=
  ((List.range 24).map (recordWord record)).sum % 65536

/-- The record checks good and its identity is valid (R187). -/
def recordGood (record : List Byte) : Bool :=
  decide (recordSum record = 0) && decide (1 ≤ recordWord record 0) && decide (recordWord record 0 ≤ Config.nodeMax)

/-- A word clamped to its field's range (R188, R191). -/
def recordField (record : List Byte) (i lo hi : Nat) : Nat := clampNat lo hi (recordWord record i)

/-- The draw setpoint's word, signed (R191). -/
def recordSetpoint (record : List Byte) : Int := (BitVec.ofNat 16 (recordWord record 15)).toInt

/-- The top rung, clamped (R188). -/
def recordTop (record : List Byte) : Nat := clampNat 0 7 (recordByte record 17)

/-- The floor rung, clamped, and set to t where it is greater (R188). -/
def recordFloor (record : List Byte) : Nat := min (clampNat 0 7 (recordByte record 16)) (recordTop record)

/-- The tuning fields of the record, clamped (R191). -/
def recordTuning (record : List Byte) : Tuning :=
  { shareGain := recordField record 10 0 4095
    deadband := recordField record 11 0 1000
    rateLimit := recordField record 12 1 500
    trimLimit := recordField record 13 0 2000
    shareTolerance := recordField record 17 10 3000
    drawSetpoint := clampInt (-200) 500 (recordSetpoint record)
    drawTolerance := recordField record 16 1 500
    couplingWindow := recordField record 18 2 32
    couplingThreshold := recordField record 19 10 5000 }

/-- The start image of a record that checks good (R188). The class map and masks are taken with their entries for
CONFIG and ID_CLASH fixed (R161, R162). -/
def recordImage (record : List Byte) : Image :=
  { station := recordWord record 0
    group := recordField record 1 0 15
    weight := recordField record 2 1 255
    position := recordField record 3 0 40
    period := recordField record 4 5 100
    passThreshold := recordField record 5 1 15
    badThreshold := recordField record 6 1 15
    edgeScale := recordField record 7 1 65535
    floorRung := recordFloor record
    topRung := recordTop record
    lockBand := recordField record 9 1 50
    fadeLength := recordField record 14 1 64
    tuning := recordTuning record
    classMap := BitVec.ofNat 16 (recordWord record 20) ||| Config.fixedKinds
    detectMask := BitVec.ofNat 16 (recordWord record 21) &&& ~~~Config.fixedKinds
    signalMask := BitVec.ofNat 16 (recordWord record 22) &&& ~~~Config.fixedKinds }

/-- Whether any field of the record was clamped: the start-clamp flag (R188). -/
def recordClamped (record : List Byte) : Bool :=
  let i := recordImage record
  let w := recordWord record
  decide (¬ (i.group = w 1 ∧ i.weight = w 2 ∧ i.position = w 3 ∧ i.period = w 4 ∧ i.passThreshold = w 5
    ∧ i.badThreshold = w 6 ∧ i.edgeScale = w 7 ∧ i.floorRung = recordByte record 16
    ∧ i.topRung = recordByte record 17 ∧ i.lockBand = w 9 ∧ i.tuning.shareGain = w 10 ∧ i.tuning.deadband = w 11
    ∧ i.tuning.rateLimit = w 12 ∧ i.tuning.trimLimit = w 13 ∧ i.fadeLength = w 14
    ∧ i.tuning.drawSetpoint = recordSetpoint record ∧ i.tuning.drawTolerance = w 16
    ∧ i.tuning.shareTolerance = w 17 ∧ i.tuning.couplingWindow = w 18 ∧ i.tuning.couplingThreshold = w 19))

/-! ### Drive link frames (R194) -/

/-- Sum of the first four characters, modulo 256. -/
def linkSum (a b c d : Byte) : Byte := a + b + c + d

/-- The five characters of a REFERENCE frame. -/
def referenceChars (word : Int) (active : Bool) : List Byte :=
  let w := BitVec.ofInt 16 word
  let hi := byte (w.toNat / 256)
  let lo := byte w.toNat
  [Config.referenceStart, hi, lo, flagByte active, linkSum Config.referenceStart hi lo (flagByte active)]

/-! ### Patterns (R127, R128, R192) -/

/-- The code of step i in the eight level bytes: two bits a step, four to a byte, step 0 highest. -/
def levelCodeAt (levels : List Byte) (i : Nat) : Nat :=
  ((levels[i / 4]?).getD 0).toNat / 4 ^ (3 - i % 4) % 4

/-- The levels of the first `n` steps from step `i` on, none where a code is not one of the three (R127). -/
def parseLevels (levels : List Byte) : Nat → Nat → Option (List Level)
  | 0, _ => some []
  | n + 1, i =>
    match Level.ofCode? (levelCodeAt levels i), parseLevels levels n (i + 1) with
    | some l, some ls => some (l :: ls)
    | _, _ => none

/-- The code of the level at place i of a pattern, 00 beyond its steps. -/
def patternCodeAt (levels : List Level) (i : Nat) : Nat :=
  match levels[i]? with
  | some l => l.code
  | none => 0

/-- Level byte k of a pattern (R192, R193). -/
def patternByte (levels : List Level) (k : Nat) : Byte :=
  byte (64 * patternCodeAt levels (4 * k) + 16 * patternCodeAt levels (4 * k + 1)
    + 4 * patternCodeAt levels (4 * k + 2) + patternCodeAt levels (4 * k + 3))

/-- The 15 characters of a pattern: READ PATTERN's data, and LOAD_PATTERN's arguments (R192, R193). -/
def patternChars (p : Pattern) : List Byte :=
  byte p.levels.length :: (List.range 8).map (patternByte p.levels)
    ++ byte p.hold :: be16 p.amplitude ++ be16 p.tolerance ++ [p.target]

end Sys2Proof.Machine
end

