-- ==== Sys2Proof/Machine/Flags.lean ====
section
/-! DEFINITION. The flags the manual derives: fault kinds as flags of a set, the fault lines and summary, the
tracker's and the drive link's flags. -/

namespace Sys2Proof.Machine

/-- The number of a kind, 1..16 (R160). -/
def Kind.number : Kind → Nat
  | .config => 1
  | .idClash => 2
  | .driveLink => 3
  | .speedLoss => 4
  | .lineStep => 5
  | .peerLost => 6
  | .peerUnsteady => 7
  | .groupShort => 8
  | .trimSaturated => 9
  | .shareTol => 10
  | .drawTol => 11
  | .torqueRange => 12
  | .testLimit => 13
  | .couplingMismatch => 14
  | .answerOverflow => 15
  | .lineCheck => 16

/-- The kind of a number, none outside 1..16 (R160). -/
def Kind.ofNumber? : Nat → Option Kind
  | 1 => some .config
  | 2 => some .idClash
  | 3 => some .driveLink
  | 4 => some .speedLoss
  | 5 => some .lineStep
  | 6 => some .peerLost
  | 7 => some .peerUnsteady
  | 8 => some .groupShort
  | 9 => some .trimSaturated
  | 10 => some .shareTol
  | 11 => some .drawTol
  | 12 => some .torqueRange
  | 13 => some .testLimit
  | 14 => some .couplingMismatch
  | 15 => some .answerOverflow
  | 16 => some .lineCheck
  | _ => none

/-- The set holding one kind: bit number − 1 (R190). -/
def Kind.flag (k : Kind) : KindSet := BitVec.twoPow 16 (k.number - 1)

/-- Whether a set holds a kind. -/
def holds (m : KindSet) (k : Kind) : Bool := m.getLsbD (k.number - 1)

/-- Whether a kind is fixed: TRIP in every map, never masked (R161, R162). -/
def Kind.fixed (k : Kind) : Bool := holds Config.fixedKinds k

/-- The TRIP line: some TRIP-class kind is set and not signal-masked (R169). -/
def FaultUnit.tripDue (f : FaultUnit) : Bool := decide (f.status &&& f.classMap &&& ~~~f.signalMask ≠ 0)

/-- The WARN line: some WARN-class kind is set and not signal-masked (R169). -/
def FaultUnit.warnDue (f : FaultUnit) : Bool := decide (f.status &&& ~~~f.classMap &&& ~~~f.signalMask ≠ 0)

/-- The lines move at once on every change of status or signal mask (R169). -/
def FaultUnit.driveLines (f : FaultUnit) : FaultUnit := { f with tripLine := f.tripDue, warnLine := f.warnDue }

/-- Some TRIP-class kind is set, whatever the signal mask (R101, R130, R170). -/
def FaultUnit.tripPending (f : FaultUnit) : Bool := decide (f.status &&& f.classMap ≠ 0)

/-- The fault summary (R170). -/
def FaultUnit.summary (f : FaultUnit) : Summary :=
  if f.tripPending then .trip else if f.status ≠ 0 then .warn else .none

/-- The speed-valid flag (R13). -/
def Tracker.valid (t : Tracker) : Bool := decide (t.state = .locked)

/-- The reported speed (R13). -/
def Tracker.speed (t : Tracker) : Nat :=
  match t.state with
  | .standstill => 0
  | _ => t.latest.getD 0

/-- The stale flag (R22). -/
def DriveLink.stale (d : DriveLink) : Bool := decide (1 ≤ d.staleRun)

/-- Whether a mode is TRIM, in any phase. -/
def Mode.isTrim : Mode → Bool
  | .trim _ => true
  | _ => false

/-- Whether a mode is TRIM in any phase, or TEST: the modes with authority over the drive. -/
def Mode.hasAuthority : Mode → Bool
  | .trim _ => true
  | .test => true
  | _ => false

/-- Whether the section line works in a mode: LISTEN, REPORT, TRIM and TEST (R29). -/
def Mode.lineOn : Mode → Bool
  | .start => false
  | .hold => false
  | _ => true

/-- Whether the report slot is filled at an evaluation in a mode: REPORT, TRIM and TEST (R41). -/
def Mode.reports : Mode → Bool
  | .report => true
  | .trim _ => true
  | .test => true
  | _ => false

end Sys2Proof.Machine
end

