-- ==== Sys2Proof/Machine/Ops.lean ====
section
/-! DEFINITION. The shared operations: the start image in force, the peer table's map, the transmitter's idle state,
changes of mode and phase (R94), the trip drop (R110, R111) and the taking of notices (R163 to R169). -/

namespace Sys2Proof.Machine

/-! ### The start image and the peer table's map -/

/-- The start image, or the values that stand for it while there is none (R187, log entry 8). -/
def State.image (s : State) : Image := s.startUnit.image.getD Image.fallback

/-- The own station. -/
def State.own (s : State) : Nat := s.image.station

/-- The keys of the peer table: node stations other than the own (R47). -/
def State.isKey (s : State) (k : Nat) : Bool :=
  decide (1 ≤ k) && decide (k ≤ Config.nodeMax) && decide (k ≠ s.own)

/-- The entry of station k; outside 1..40 an entry that nothing is heard from. -/
def State.peer (s : State) (k : Nat) : PeerEntry :=
  if 1 ≤ k then (s.peers[k - 1]?).getD PeerEntry.atReset else PeerEntry.atReset

/-- Replacing the entry of station k; nothing outside 1..40. -/
def State.setPeer (s : State) (k : Nat) (e : PeerEntry) : State :=
  if 1 ≤ k then { s with peers := s.peers.setIfInBounds (k - 1) e } else s

/-- The node stations in ascending order (R47). -/
def stations : List Nat := List.range' 1 40

/-- The coupling observation slot's peer (R147). -/
def Slot.peer? : Slot → Option Nat
  | .empty => none
  | .pending p _ _ => some p
  | .counting p _ _ _ _ _ => some p

/-! ### The transmitter at rest (R37, R40) -/

/-- Whether there is something to send: an answer, or a pending report (R40). -/
def State.somethingToSend (s : State) : Bool := !s.handler.queue.isEmpty || s.line.reportDue

/-- Between attempts the transmitter is DEFERRING while there is something to send and the line works, and IDLE
otherwise (R29, R37). -/
def State.settleTx (s : State) : State :=
  match s.line.attempt with
  | some _ => s
  | none =>
    { s with line := { s.line with tx := if s.control.mode.lineOn && s.somethingToSend then .deferring else .idle } }

/-! ### Changes of mode and phase (R94) -/

/-- What a change of mode does in the line block: entry to LISTEN empties the report slot and clears the refill mark;
entry to HOLD does so too, abandons an attempt and stops the receiver (R41, R97). -/
def Line.onMode (l : Line) : Mode → Line
  | .listen => { l with reportDue := false, refill := false }
  | .hold => { l with reportDue := false, refill := false, attempt := none, rx := .stopped }
  | _ => l

/-- A change of mode, told to the blocks that act on it: the balance engine clears its runs and flag (R84 to R86), the
drive link releases its posting (R21), the line block empties its slot (R41). The coupling observer's part, at entry to
TEST, is `observeTestEntry`. -/
def State.changeMode (s : State) (m : Mode) : State :=
  State.settleTx
    { s with
      control := { s.control with mode := m }
      balance := { s.balance with saturationRun := 0, shareRun := 0, groupShort := false }
      drive := { s.drive with posted := false }
      line := s.line.onMode m }

/-- A change of phase within TRIM: the posting is released and the balance engine's runs are kept (R21, R94, R107). -/
def State.changePhase (s : State) (p : Phase) : State :=
  { s with control := { s.control with mode := .trim p }, drive := { s.drive with posted := false } }

/-- Authority removed: a, y and u become 0 (R104, R110). -/
def State.zeroAuthority (s : State) : State :=
  { s with
    control := { s.control with authority := 0, trim := 0 }
    balance := { s.balance with integrator := 0 } }

/-- Entry to HOLD from a mode without authority: a becomes 0 (R97). -/
def State.toHold (s : State) : State :=
  State.changeMode { s with control := { s.control with authority := 0 } } .hold

/-- The verdict record a test leaves (R140). -/
def Excitation.record (x : Excitation) (o : TestOutcome) : Verdict :=
  { outcome := o, count := x.count, steps := x.stepIndex, baseline := x.baseline }

/-- A running test ends with this outcome: x, sent step and sent level 0, the verdict record replaced, IDLE
(R135, R140 to R142). -/
def State.endTest (s : State) (o : TestOutcome) : State :=
  { s with excitation :=
      { s.excitation with
        offset := 0, sentStep := 0, sentLevel := .zero, running := false,
        verdict := some (s.excitation.record o) } }

/-! ### The trip drop (R110, R111) -/

/-- The trip drop; `toHold` for a notice of kind CONFIG or ID_CLASH. -/
def State.tripDrop (s : State) (toHold : Bool) : State :=
  match s.control.mode with
  | .trim _ => s.zeroAuthority.changeMode (if toHold then .hold else .report)
  | .test => (s.zeroAuthority.endTest .aborted).changeMode (if toHold then .hold else .report)
  | .start => if toHold then s.toHold else s
  | .listen => if toHold then s.toHold else s
  | .report => if toHold then s.toHold else s
  | .hold => s

/-! ### Taking notices (R163 to R168) -/

/-- A notice without a cause. -/
def notice (k : Kind) (source : Nat) : Notice := { kind := k, source := source, cause := none }

/-- One notice that is not detect-masked counted, and its kind set in the status (R163). -/
def FaultUnit.count (f : FaultUnit) (n : Notice) : FaultUnit :=
  { f with
    status := f.status ||| n.kind.flag
    counts := f.counts.setIfInBounds (n.kind.number - 1)
      (satInc Config.runMax ((f.counts[n.kind.number - 1]?).getD 0)) }

/-- The occurrence count of a kind. -/
def FaultUnit.countOf (f : FaultUnit) (k : Kind) : Nat := (f.counts[k.number - 1]?).getD 0

/-- Of the notices of a set, the one with the lowest kind number (R164). -/
def lowest : Notice → List Notice → Notice
  | n, [] => n
  | n, m :: rest => if m.kind.number < n.kind.number then lowest m rest else lowest n rest

/-- What the first-trip record is filled with: the values standing when the notice is taken (R165). -/
def State.tripContents (s : State) (n : Notice) : TripContents :=
  { kind := n.kind, source := n.source, evaluation := s.control.evaluations, mode := s.control.mode,
    speed := s.tracker.speed, speedValid := s.tracker.valid, torque := s.drive.held,
    integrator := s.balance.integrator, authority := s.control.authority,
    testStep := if s.control.mode = .test then some s.excitation.stepIndex else none,
    cause := if n.kind = .driveLink then n.cause else none }

/-- What the first-warn record is filled with (R167). -/
def State.warnContents (s : State) (n : Notice) : WarnContents :=
  { kind := n.kind, source := n.source, evaluation := s.control.evaluations }

/-- The TRIP-class part of a set at the first-trip record: it fills an EMPTY or RELEASED record, or sets the flag of a
LOCKED one (R164 to R166). -/
def State.toFirstTrip (s : State) : List Notice → State
  | [] => s
  | n :: rest =>
    match s.fault.firstTrip with
    | .locked _ => { s with fault := { s.fault with multipleTrip := true } }
    | _ =>
      { s with fault :=
          { s.fault with firstTrip := .locked (s.tripContents (lowest n rest)), multipleTrip := !rest.isEmpty } }

/-- The WARN-class part of a set at the first-warn record (R167). -/
def State.toFirstWarn (s : State) : List Notice → State
  | [] => s
  | n :: rest =>
    match s.fault.firstWarn with
    | .locked _ => { s with fault := { s.fault with multipleWarn := true } }
    | _ =>
      { s with fault :=
          { s.fault with firstWarn := .locked (s.warnContents (lowest n rest)), multipleWarn := !rest.isEmpty } }

/-- The notices of a set that are not detect-masked (R163). -/
def FaultUnit.live (f : FaultUnit) (ns : List Notice) : List Notice := ns.filter fun n => !holds f.detectMask n.kind

/-- A set of notices recorded: counts, status, records and lines, before the drop it may request (R163 to R169). -/
def State.recordNotices (s : State) (ns : List Notice) : State :=
  let live := s.fault.live ns
  let s1 := { s with fault := (live.foldl FaultUnit.count s.fault).driveLines }
  (s1.toFirstTrip (live.filter fun n => holds s.fault.classMap n.kind)).toFirstWarn
    (live.filter fun n => !holds s.fault.classMap n.kind)

/-- Whether a set, as taken, requests a drop (R168). -/
def FaultUnit.requestsDrop (f : FaultUnit) (ns : List Notice) : Bool :=
  (f.live ns).any fun n => holds f.classMap n.kind

/-- Whether the requested drop names CONFIG or ID_CLASH (R168). -/
def FaultUnit.dropsToHold (f : FaultUnit) (ns : List Notice) : Bool := (f.live ns).any fun n => n.kind.fixed

/-- The fault unit takes a set of notices: it records them, then requests one trip drop if the set holds a TRIP-class
one (R163, R164, R168). -/
def State.takeNotices (s : State) (ns : List Notice) : State :=
  let s1 := s.recordNotices ns
  if s.fault.requestsDrop ns then s1.tripDrop (s.fault.dropsToHold ns) else s1

/-- The fault unit takes a single notice (R163). -/
def State.takeNotice (s : State) (n : Notice) : State := s.takeNotices [n]

/-! ### Clearing (R162, R171) -/

/-- A record released if it is LOCKED and `named` holds of its contents. -/
def Record.releaseIf {α : Type} (r : Record α) (named : α → Bool) : Record α :=
  match r with
  | .locked c => if named c then .released c else .locked c
  | .empty => .empty
  | .released c => .released c

/-- The effect of CLEAR_FAULTS naming these kinds (R171). -/
def FaultUnit.clear (f : FaultUnit) (kinds : KindSet) : FaultUnit :=
  FaultUnit.driveLines
    { f with
      status := f.status &&& ~~~kinds
      firstTrip := f.firstTrip.releaseIf fun c => holds kinds c.kind
      firstWarn := f.firstWarn.releaseIf fun c => holds kinds c.kind }

end Sys2Proof.Machine
end

