-- ==== Sys2Proof/Machine/Balance.lean ====
section
/-! DEFINITION. The balance engine (spec/05): the group, the share computation, the integrator and its watches, and
the mode controller's fade steps and applied trim (spec/06, R103 to R105). -/

namespace Sys2Proof.Machine

/-- A member of the group M (R71). -/
structure Member where
  torque : Int
  weight : Nat
  trim   : Int
  deriving DecidableEq, Repr

/-- A peer's entry as a member of group g, if it meets R73. -/
def PeerEntry.member? (e : PeerEntry) (g : Nat) : Option Member :=
  match e.state, e.stored with
  | .qualified, some r =>
    if r.shape.group = g ∧ r.contents.speedValid = true ∧ r.contents.mode ≠ .test then
      some { torque := r.contents.torque, weight := r.shape.weight, trim := r.contents.trim }
    else none
  | _, _ => none

/-- The peers of M; none while the own group is 0 (R73). -/
def State.peerMembers (s : State) : List Member :=
  if s.image.group = 0 then []
  else stations.filterMap fun k => if s.isKey k then (s.peer k).member? s.image.group else none

/-- The node's own values as a member (R72). -/
def State.ownMember (s : State) : Member :=
  { torque := s.drive.held, weight := s.image.weight, trim := s.balance.integrator }

/-- The first reason of R74 that keeps the node out of its own group. -/
def State.ownReason (s : State) : Option ShareReason :=
  if s.tracker.valid = false then some .speed
  else if s.drive.stale = true then some .torque
  else if s.image.group = 0 then some .noGroup
  else if s.control.mode = .test then some .inTest
  else none

/-- The group M (R71 to R73). -/
def State.group (s : State) : List Member :=
  (if s.ownReason = none then [s.ownMember] else []) ++ s.peerMembers

/-- T_G (R75). -/
def totalTorque (m : List Member) : Int := (m.map Member.torque).sum

/-- W_G (R75). -/
def totalWeight (m : List Member) : Nat := (m.map Member.weight).sum

/-- The target torque τ (R76). -/
def shareTarget (m : List Member) (weight : Nat) : Int :=
  clampInt (-Config.torqueMax) Config.torqueMax (roundDiv (totalTorque m * weight) (totalWeight m))

/-- The share error with the deadband taken off: e′ (R77). -/
def deadbanded (b : Nat) (e : Int) : Int := if e.natAbs ≤ b then 0 else e - Int.sign e * b

/-- The proportional increment r (R78). -/
def shareIncrement (k : Nat) (e' : Int) : Int := truncDiv (-(e' * k)) 256

/-- The centering term c (R79). -/
def centering (m : List Member) : Int := truncDiv (-(truncDiv (m.map Member.trim).sum m.length)) 8

/-- The share result of an assessed evaluation (R75 to R80, R89). -/
def State.assess (s : State) (m : List Member) : ShareResult :=
  let target := shareTarget m s.image.weight
  let e := s.drive.held - target
  let r := shareIncrement s.handler.tuning.shareGain (deadbanded s.handler.tuning.deadband e)
  let c := centering m
  { evaluation := s.control.evaluations
    outcome := .assessed (totalTorque m) (totalWeight m) target e r c
    members := m.length
    step := clampInt (-(s.handler.tuning.rateLimit : Int)) s.handler.tuning.rateLimit (r + c) }

/-- The share result of an unassessed evaluation (R74, R89). -/
def State.decline (s : State) (reason : ShareReason) (members : Nat) : ShareResult :=
  { evaluation := s.control.evaluations, outcome := .unassessed reason, members := members, step := 0 }

/-- The share result of this evaluation (R74). -/
def State.shareResult (s : State) : ShareResult :=
  match s.ownReason with
  | some reason => s.decline reason s.group.length
  | none => if s.group.length < 2 then s.decline .short s.group.length else s.assess s.group

/-- Whether a share result is assessed. -/
def ShareResult.assessed (r : ShareResult) : Bool :=
  match r.outcome with
  | .assessed .. => true
  | .unassessed _ => false

/-- The share error of a result, 0 where it has none. -/
def ShareResult.error (r : ShareResult) : Int :=
  match r.outcome with
  | .assessed _ _ _ e _ _ => e
  | .unassessed _ => 0

/-- The integrator after the engine's work (R81). -/
def nextIntegrator (mode : Mode) (r : ShareResult) (limit : Nat) (u : Int) : Int :=
  match mode with
  | .trim .fadeOut => u
  | .trim _ => if r.assessed then clampInt (-(limit : Int)) limit (u + r.step) else u
  | _ => 0

/-- The saturation run after the engine's work, with the integrator already updated (R85). -/
def nextSaturation (mode : Mode) (r : ShareResult) (limit : Nat) (u : Int) (run : Nat) : Nat :=
  match mode with
  | .trim .fadeOut => run
  | .trim _ =>
    if r.assessed then
      if 1 ≤ limit ∧ u.natAbs = limit then satInc Config.runMax run else 0
    else run
  | _ => run

/-- The share-tolerance run after the engine's work (R86). -/
def nextShareRun (mode : Mode) (r : ShareResult) (tolerance : Nat) (run : Nat) : Nat :=
  if mode = .trim .full ∧ r.assessed = true ∧ tolerance < r.error.natAbs then satInc Config.runMax run else 0

/-- The group-short flag after the engine's work (R84). -/
def nextGroupShort (mode : Mode) (r : ShareResult) (flag : Bool) : Bool :=
  if mode.isTrim then !r.assessed else flag

/-- The balance engine after its work at an evaluation, before its notices are taken. -/
def State.balanced (s : State) : Balance :=
  let r := s.shareResult
  let t := s.handler.tuning
  let mode := s.control.mode
  let u := nextIntegrator mode r t.trimLimit s.balance.integrator
  { integrator := u
    saturationRun := nextSaturation mode r t.trimLimit u s.balance.saturationRun
    shareRun := nextShareRun mode r t.shareTolerance s.balance.shareRun
    groupShort := nextGroupShort mode r s.balance.groupShort
    result := some r }

/-- The notices of the engine's work: GROUP_SHORT at the first unassessed evaluation of a run (R84); TRIM_SATURATED
where the saturation run has just reached 16 (R85); SHARE_TOL where the share-tolerance run has just reached 8 (R86).
One set (R164). -/
def State.balanceNotices (s : State) : List Notice :=
  let b := s.balanced
  (if s.control.mode.isTrim = true ∧ s.shareResult.assessed = false ∧ s.balance.groupShort = false then
      [notice .groupShort 0] else [])
    ++ (if b.saturationRun = 16 ∧ s.balance.saturationRun ≠ 16 then [notice .trimSaturated 0] else [])
    ++ (if b.shareRun = 8 ∧ s.balance.shareRun ≠ 8 then [notice .shareTol 0] else [])

/-- The balance engine's work at an evaluation; none in START and HOLD (R91). -/
def State.balanceWork (s : State) : State :=
  if s.control.mode.lineOn then State.takeNotices { s with balance := s.balanced } s.balanceNotices else s

/-- The fade step of an evaluation (R103, R104). -/
def State.fadeStep (s : State) : State :=
  match s.control.mode with
  | .trim .fadeIn =>
    let s1 := { s with control := { s.control with authority := s.control.authority + 1 } }
    if s.control.authority + 1 = s.image.fadeLength then s1.changePhase .full else s1
  | .trim .fadeOut =>
    if s.control.authority ≤ 1 then s.zeroAuthority.changeMode .report
    else { s with control := { s.control with authority := s.control.authority - 1 } }
  | _ => s

/-- The applied trim of an evaluation in TRIM (R105). -/
def State.applyTrim (s : State) : State :=
  if s.control.mode.isTrim then
    { s with control :=
        { s.control with
          trim := truncDiv (s.balance.integrator * s.control.authority) s.image.fadeLength } }
  else s

end Sys2Proof.Machine
end

