-- ==== Sys2Proof/Machine/Draw.lean ====
section
/-! DEFINITION. The draw verifier (spec/07): the upstream set, the achieved draw, the tolerance run. -/

namespace Sys2Proof.Machine

/-- An entry's speed where it belongs to the upstream set of position p (R117). -/
def PeerEntry.upstream? (e : PeerEntry) (p : Nat) : Option Nat :=
  match e.state, e.stored with
  | .qualified, some r =>
    if r.shape.position = p - 1 ∧ r.contents.speedValid = true then some r.contents.speed else none
  | _, _ => none

/-- The speeds of the upstream set; empty at positions 0 and 1 (R117). -/
def State.upstream (s : State) : List Nat :=
  if s.image.position < 2 then []
  else stations.filterMap fun k => if s.isKey k then (s.peer k).upstream? s.image.position else none

/-- The mean upstream speed, absent for an empty set (R118). -/
def meanSpeed (speeds : List Nat) : Option Nat :=
  match speeds with
  | [] => none
  | _ => some (speeds.sum / speeds.length)

/-- The achieved draw (R120). -/
def achievedDraw (own up : Nat) : Int :=
  clampInt (-9999) 9999 (roundDiv (((own : Int) - up) * 10000) up)

/-- Whether the draw is assessed at this evaluation, and its figures (R119, R120). -/
def State.drawOutcome (s : State) : DrawOutcome :=
  if s.image.position < 2 then .unassessed .position
  else if s.tracker.valid = false then .unassessed .speed
  else
    match meanSpeed s.upstream with
    | none => .unassessed .noUpstream
    | some up => if up < 100 then .unassessed .slow else .assessed s.tracker.speed (achievedDraw s.tracker.speed up)

/-- The draw-tolerance run after this evaluation (R121). -/
def nextDrawRun (outcome : DrawOutcome) (setpoint : Int) (tolerance run : Nat) : Nat :=
  match outcome with
  | .assessed _ d => if tolerance < (d - setpoint).natAbs then satInc Config.runMax run else 0
  | .unassessed _ => 0

/-- The draw verifier after its work, before its notice (R116, R123). -/
def State.verified (s : State) : Draw :=
  let outcome := s.drawOutcome
  let run := nextDrawRun outcome s.handler.tuning.drawSetpoint s.handler.tuning.drawTolerance s.draw.run
  { run := run
    result := some
      { evaluation := s.control.evaluations, outcome := outcome, upstreamCount := s.upstream.length,
        upstreamSpeed := meanSpeed s.upstream, run := run } }

/-- The draw verifier's work at an evaluation, with DRAW_TOL where the run has just reached 4 (R121); none in START
and HOLD (R116). -/
def State.drawWork (s : State) : State :=
  if s.control.mode.lineOn then
    let s1 := { s with draw := s.verified }
    if s.verified.run = 4 ∧ s.draw.run ≠ 4 then s1.takeNotice (notice .drawTol 0) else s1
  else s

end Sys2Proof.Machine
end

