-- ==== Sys2Proof/Machine/DriveLink.lean ====
section
/-! DEFINITION. The drive link (spec/02): TORQUE frames in, the close at each evaluation, REFERENCE frames out. -/

namespace Sys2Proof.Machine

/-- A frame discarded: broken, cut off or refused (R18, R19). -/
def State.discardTorque (s : State) : State :=
  { s with drive := { s.drive with discards := satInc Config.counter16Max s.drive.discards } }

/-- The notices of a frame taken with this word and ready flag: TORQUE_RANGE for a word out of range (R20), and
DRIVE_LINK "not ready" in TRIM or TEST unless posted (R21). They are one set (R164). -/
def State.torqueNotices (s : State) (word : Int) (ready : Bool) : List Notice :=
  (if word < -Config.torqueMax ∨ Config.torqueMax < word then [notice .torqueRange 0] else [])
    ++ (if ready = false ∧ s.control.mode.hasAuthority = true ∧ s.drive.posted = false then
          [{ kind := .driveLink, source := 0, cause := some .notReady }] else [])

/-- A frame taken: the clamped word accumulated, the frame counted, drive-ready and the posting replaced
(R19 to R21). -/
def State.accumulate (s : State) (word : Int) (ready : Bool) : State :=
  { s with drive :=
      { s.drive with
        sum := s.drive.sum + clampInt (-Config.torqueMax) Config.torqueMax word
        count := s.drive.count + 1
        framesTaken := s.drive.framesTaken + 1
        ready := ready
        posted := !ready && (s.drive.posted || s.control.mode.hasAuthority) } }

/-- A frame that passes its check, offered to the accumulator (R19). -/
def State.offerTorque (s : State) (word : Int) (ready : Bool) : State :=
  if s.drive.count < Config.accumulatorMax then (s.accumulate word ready).takeNotices (s.torqueNotices word ready)
  else s.discardTorque

/-- The characters of the open frame replaced; none open means that the receiver hunts (R17). -/
def State.openTorque (s : State) (chars : List Byte) : State := { s with drive := { s.drive with opened := chars } }

/-- A complete frame judged by its sum check (R18, R194). -/
def State.judgeTorque (s : State) (start wordHi wordLo flags sum : Byte) : State :=
  if sum = linkSum start wordHi wordLo flags then s.offerTorque (s16 wordHi wordLo) (flags.getLsbD 0)
  else s.discardTorque

/-- One character at the receiver (R17): while hunting, only the start character opens a frame and any other is dropped
uncounted; in an open frame every character is taken whatever its value, and the fifth completes the frame. -/
def State.torqueCharacter (s : State) (c : Byte) : State :=
  match s.drive.opened with
  | [] => if c = Config.torqueStart then s.openTorque [c] else s
  | [start, wordHi, wordLo, flags] => (s.openTorque []).judgeTorque start wordHi wordLo flags c
  | chars => s.openTorque (chars ++ [c])

/-- Characters arriving from the drive, none taken in START (R17). -/
def State.torqueArrives (s : State) (chars : List Byte) : State :=
  if s.control.mode = .start then s else chars.foldl State.torqueCharacter s

/-- A gap or a framing error (R17, R18): an open frame is cut off, discarded and counted, and the receiver hunts again;
while hunting nothing is counted. -/
def State.cutTorque (s : State) : State :=
  if s.control.mode = .start ∨ s.drive.opened = [] then s else (s.openTorque []).discardTorque

/-- TORQUE_FRAME (R17 to R21, R194). -/
def execTorqueFrame (start word flags sum : List Byte) (s : State) : Host.Outcome State Fault Refusal :=
  .next (s.torqueArrives (start ++ word ++ flags ++ sum))

/-- TORQUE_GAP_CUT_OFF (R17, R18). -/
def execTorqueGapCutOff (s : State) : Host.Outcome State Fault Refusal := .next s.cutTorque

/-- TORQUE_FRAMING_ERROR (R17, R18): the character itself is dropped. -/
def execTorqueFramingError (s : State) : Host.Outcome State Fault Refusal := .next s.cutTorque

/-- The accumulator closed at an evaluation (R22). -/
def State.closeAccumulator (s : State) : State :=
  { s with drive :=
      if s.drive.count = 0 then
        { s.drive with sum := 0, staleRun := satInc Config.runMax s.drive.staleRun }
      else
        { s.drive with sum := 0, count := 0, held := truncDiv s.drive.sum s.drive.count, staleRun := 0 } }

/-- The notice of a stale run that has become 3, in the mode as it stood when the evaluation began (R23). -/
def State.staleNotice (s : State) (began : Mode) : State :=
  if s.drive.staleRun = 3 ∧ began.hasAuthority then
    s.takeNotice { kind := .driveLink, source := 0, cause := some .stale }
  else s

/-- The trim word of the REFERENCE frame formed in the mode standing (R25). -/
def State.referenceWord (s : State) : Int :=
  match s.control.mode with
  | .trim _ => s.control.trim
  | .test => s.excitation.offset
  | _ => 0

/-- The REFERENCE frame being sent has been sent whole (R26). -/
def DriveLink.sendOut (d : DriveLink) : DriveLink :=
  match d.sending with
  | some f => { d with sending := none, frame := some f }
  | none => d

/-- The REFERENCE frame formed in the mode standing, and sent as soon as it is formed; none in START or HOLD (R25, R26).
The frame before it, 25 µs long, has been sent whole by then. -/
def State.formReference (s : State) : State :=
  if s.control.mode.lineOn then
    { s with drive :=
        { s.drive.sendOut with
          lastWord := s.referenceWord
          sending := some (referenceChars s.referenceWord (decide (s.control.mode = .test))) } }
  else s

end Sys2Proof.Machine
end

