-- ==== Sys2Proof/Machine/Excitation.lean ====
section
/-! DEFINITION. The excitation unit's work at an evaluation in TEST (R133 to R135, R139, R140). -/

namespace Sys2Proof.Machine

/-- The target of a test (R139). -/
def Pattern.targetCount (p : Pattern) : Nat := floatDecode p.target

/-- The level of step s (R133). -/
def Pattern.level (p : Pattern) (s : Nat) : Level := (p.levels[s]?).getD .zero

/-- The offset of step s, mm/s (R133). -/
def Pattern.offset (p : Pattern) (s : Nat) : Int := (p.level s).toInt * p.amplitude

/-- Whether an evaluation at position j is settled (R134). -/
def Pattern.settled (p : Pattern) (j : Nat) : Bool := decide (p.hold / 2 ≤ j)

/-- Whether a settled evaluation's response is wrong (R134). -/
def responseWrong (valid : Bool) (v base tolerance : Nat) (x : Int) : Bool :=
  !valid || decide ((tolerance : Int) < (((v : Int) - base) - x).natAbs)

/-- Whether this evaluation increases the response count (R134). -/
def State.countsResponse (s : State) (p : Pattern) : Bool :=
  p.settled s.excitation.position
    && responseWrong s.tracker.valid s.tracker.speed s.excitation.baseline p.tolerance (p.offset s.excitation.stepIndex)

/-- The step in progress sent and its response checked (R133, R134). -/
def State.checkResponse (s : State) (p : Pattern) : Excitation :=
  { s.excitation with
    offset := p.offset s.excitation.stepIndex
    sentStep := s.excitation.stepIndex
    sentLevel := p.level s.excitation.stepIndex
    count := s.excitation.count + (if s.countsResponse p then 1 else 0) }

/-- The position in step advanced (R135). -/
def Excitation.advance (x : Excitation) (p : Pattern) : Excitation :=
  if x.position + 1 = p.hold then { x with position := 0, stepIndex := x.stepIndex + 1 }
  else { x with position := x.position + 1 }

/-- Outcome of a test that ends normally (R140). -/
def Excitation.outcome (x : Excitation) (p : Pattern) : TestOutcome :=
  if x.count ≤ p.targetCount then .pass else .fail

/-- Whether the advance has passed the last step (R135). -/
def Excitation.past (x : Excitation) (p : Pattern) : Bool := decide (x.position = 0) && decide (x.stepIndex = p.levels.length)

/-- The check and advance of an evaluation in TEST, with the normal end where the last step is past (R133 to R135). -/
def State.runStep (s : State) (p : Pattern) : State :=
  let s1 := { s with excitation := (s.checkResponse p).advance p }
  if s1.excitation.past p then (s1.endTest (s1.excitation.outcome p)).changeMode .report else s1

/-- Whether TEST_LIMIT is due: the count has increased, exceeds the target, and the limit notice is clear (R139). -/
def State.limitDue (s : State) (p : Pattern) : Bool :=
  s.countsResponse p && decide (p.targetCount < s.excitation.count + 1) && !s.excitation.limitPosted

/-- The excitation unit's work at an evaluation: none outside TEST (R133, R139). -/
def State.excitationWork (s : State) : State :=
  match s.control.mode, s.excitation.pattern with
  | .test, some p =>
    if s.limitDue p then
      let s1 := s.runStep p
      State.takeNotice { s1 with excitation := { s1.excitation with limitPosted := true } } (notice .testLimit 0)
    else s.runStep p
  | _, _ => s

end Sys2Proof.Machine
end

