-- ==== Sys2Proof/Machine/Coupling.lean ====
section
/-! DEFINITION. The coupling observer (spec/09): following a peer's test, the observation slot, its work at each
evaluation, judgement, verdict and abandonment. -/

namespace Sys2Proof.Machine

/-- An observation or transition of peer k counted missed (R148). -/
def State.countMissed (s : State) (k : Nat) : State :=
  s.setPeer k { s.peer k with missed := satInc Config.runMax (s.peer k).missed }

/-- The slot emptied. -/
def State.emptySlot (s : State) : State := { s with observation := .empty }

/-- The verdict that an entry's tallies give: the first row of R153 that applies. -/
def PeerEntry.judged (e : PeerEntry) : CouplingVerdict :=
  let total := e.seen + e.contrary + e.quiet
  if total < 2 then .undetermined
  else if total < 2 * e.seen then .coupled
  else if total < 2 * e.quiet then .uncoupled
  else if total < 2 * e.contrary then .inverted
  else .undetermined

/-- Whether a verdict contradicts the groups: `same` where the peer's group equals the own group and is not 0
(R154). -/
def mismatch (same : Bool) : CouplingVerdict → Bool
  | .coupled => !same
  | .uncoupled => same
  | .inverted => true
  | .undetermined => false

/-- Whether peer k shares the own group, which is not 0 (R154). -/
def State.sharesGroup (s : State) (k : Nat) : Bool :=
  match (s.peer k).stored with
  | some r => decide (r.shape.group = s.image.group) && decide (s.image.group ≠ 0)
  | none => false

/-- The verdict of peer k given: it replaces the entry's verdict, the marker is cleared, and a mismatch sends its
notice (R152 to R154). -/
def State.giveVerdict (s : State) (k : Nat) : State :=
  let v := (s.peer k).judged
  let s1 := s.setPeer k { s.peer k with verdict := some v, marker := false }
  if mismatch (s.sharesGroup k) v then s1.takeNotice (notice .couplingMismatch k) else s1

/-- A transition of peer k handled by arming, missing or closing early (R147 to R149). -/
def State.transition (s : State) (k : Nat) (sign : Sign) : State :=
  if s.control.mode = .test then s.countMissed k
  else
    match s.observation with
    | .empty => { s with observation := .pending k sign s.handler.tuning.couplingWindow }
    | .pending p _ _ =>
      if p = k then { s.countMissed k with observation := .pending k sign s.handler.tuning.couplingWindow }
      else s.countMissed k
    | .counting p sg base rem none final =>
      if p = k then { s with observation := .counting p sg base rem (some sign) final } else s.countMissed k
    | .counting p sg base rem (some _) final =>
      if p = k then { s.countMissed k with observation := .counting p sg base rem (some sign) final }
      else s.countMissed k

/-- A step of the test level, if there is one, as a transition of peer k (R146). -/
def State.levelChange (s : State) (k : Nat) (old new : Level) : State :=
  match levelStep old new with
  | some sign => s.transition k sign
  | none => s

/-- The slot holds peer k's observation with the final mark set. -/
def Slot.finalFor (o : Slot) (k : Nat) : Bool :=
  match o with
  | .counting p _ _ _ _ final => decide (p = k) && final
  | _ => false

/-- A test start of peer k with this level: a verdict still waiting on the final mark is given first; then the marker
is set and the tallies zeroed, and a level other than 0 is a transition (R145, R152). -/
def State.testStart (s : State) (k : Nat) (level : Level) : State :=
  let s1 := if s.observation.finalFor k then s.emptySlot.giveVerdict k else s
  let s2 := s1.setPeer k { s1.peer k with marker := true, seen := 0, contrary := 0, quiet := 0, missed := 0 }
  s2.levelChange k .zero level

/-- A test end of peer k (R152). -/
def State.testEnd (s : State) (k : Nat) : State :=
  match s.observation with
  | .counting p sg base rem succ _ =>
    if p = k then { s with observation := .counting p sg base rem succ true } else s.giveVerdict k
  | .pending p _ _ => if p = k then ((s.countMissed k).emptySlot).giveVerdict k else s.giveVerdict k
  | .empty => s.giveVerdict k

/-- An update of peer k told (R64): the previous contents' mode and level, and the report now stored (R145). -/
def State.observeUpdate (s : State) (k : Nat) (previous : Option Contents) (now : Contents) : State :=
  match previous with
  | none => s
  | some old =>
    match old.mode, now.mode with
    | .test, .test => if (s.peer k).marker then s.levelChange k old.testLevel now.testLevel else s
    | .test, _ => if (s.peer k).marker then s.testEnd k else s
    | _, .test => s.testStart k now.testLevel
    | _, _ => s

/-- What the peer table tells the coupling observer at a demotion: the station and the cause (R63). -/
structure Demotion where
  station : Nat
  cause   : DemotionCause
  deriving DecidableEq, Repr

/-- The entry's part of an abandonment, the same for any cause (R155). -/
def PeerEntry.abandon (e : PeerEntry) (_ : DemotionCause) : PeerEntry :=
  if e.marker then { e with marker := false, verdict := some .undetermined } else e

/-- A demotion told to the observer (R63, R155). One taken after the evaluation that gave the verdict of a final mark
finds the marker clear (DESIGN CHOICE, log entry 29). -/
def State.observeDemotion (s : State) (d : Demotion) : State :=
  if (s.peer d.station).marker then
    let s1 := s.setPeer d.station ((s.peer d.station).abandon d.cause)
    if s.observation.peer? = some d.station then s1.emptySlot else s1
  else s

/-- Which tally an observation of this sign goes to, from the torque change and the threshold (R151). -/
def tally (e : PeerEntry) (change : Int) (sign : Sign) (threshold : Nat) : PeerEntry :=
  if (threshold : Int) ≤ change * sign.expected then { e with seen := satInc Config.runMax e.seen }
  else if change * sign.expected ≤ -(threshold : Int) then { e with contrary := satInc Config.runMax e.contrary }
  else { e with quiet := satInc Config.runMax e.quiet }

/-- An observation of peer k judged against the torque mean of this evaluation, or counted missed where the torque is
stale (R150, R151). -/
def State.judge (s : State) (k : Nat) (sign : Sign) (baseline : Int) : State :=
  if s.drive.stale then s.countMissed k
  else s.setPeer k (tally (s.peer k) (s.drive.held - baseline) sign s.handler.tuning.couplingThreshold)

/-- The observer acts on the slot as it finds it (R150, R152). DESIGN CHOICE (log entry 29): an evaluation taken first
over a final mark gives the verdict and clears the marker (R152), so that a demotion taken after it changes nothing and
the verdict stands, where R155 says that it is UNDETERMINED in either order. -/
def State.observe (s : State) : State :=
  match s.observation with
  | .empty => s
  | .pending k sign rem =>
    if s.drive.stale then (s.countMissed k).emptySlot
    else { s with observation := .counting k sign s.drive.held rem none false }
  | .counting k sign base rem none false =>
    if s.drive.stale then (s.countMissed k).emptySlot
    else if rem ≤ 1 then (s.judge k sign base).emptySlot
    else { s with observation := .counting k sign base (rem - 1) none false }
  | .counting k sign base _ (some next) false =>
    if s.drive.stale then ((s.judge k sign base).countMissed k).emptySlot
    else
      { s.judge k sign base with
        observation := .counting k next s.drive.held s.handler.tuning.couplingWindow none false }
  | .counting k sign base _ none true => ((s.judge k sign base).emptySlot).giveVerdict k
  | .counting k sign base _ (some _) true => (((s.judge k sign base).countMissed k).emptySlot).giveVerdict k

/-- The observer's work at an evaluation in LISTEN, REPORT or TRIM (R150, R156). -/
def State.observeEvaluation (s : State) : State :=
  if s.control.mode.lineOn ∧ s.control.mode ≠ .test then s.observe else s

/-- Entry to TEST told (R156): whatever the slot holds is discarded as missed, a successor too, and a verdict still
waiting on the final mark is given. -/
def State.observeTestEntry (s : State) : State :=
  match s.observation with
  | .empty => s
  | .pending k _ _ => (s.countMissed k).emptySlot
  | .counting k _ _ _ succ final =>
    let s1 := s.countMissed k
    let s2 := (if succ.isSome then s1.countMissed k else s1).emptySlot
    if final then s2.giveVerdict k else s2

end Sys2Proof.Machine
end

