-- ==== Sys2Proof/Machine/Read.lean ====
section
/-! DEFINITION. The item data of READ (R182, R192, R193) and the snapshot's copy (R183). -/

namespace Sys2Proof.Machine

/-! ### Codes (R193) -/

/-- Mode code. -/
def Mode.code : Mode → Nat
  | .listen => 0
  | .report => 1
  | .trim _ => 2
  | .test => 3
  | .start => 4
  | .hold => 5

/-- TRIM phase code. -/
def Phase.code : Phase → Nat
  | .fadeIn => 0
  | .full => 1
  | .fadeOut => 2

/-- The TRIM phase, absent outside TRIM. -/
def Mode.phase? : Mode → Option Phase
  | .trim p => some p
  | _ => none

/-- Tracker state code. -/
def TrackState.code : TrackState → Nat
  | .standstill => 0
  | .acquire => 1
  | .locked => 2

/-- Receive step code. -/
def RxStep.code : RxStep → Nat
  | .inStep => 0
  | .outOfStep => 1

/-- Share reason code. -/
def ShareReason.code : ShareReason → Nat
  | .speed => 1
  | .torque => 2
  | .noGroup => 3
  | .inTest => 4
  | .short => 5

/-- Draw reason code. -/
def DrawReason.code : DrawReason → Nat
  | .position => 1
  | .speed => 2
  | .noUpstream => 3
  | .slow => 4

/-- Peer state code. -/
def PeerState.code : PeerState → Nat
  | .absent => 0
  | .probation => 1
  | .qualified => 2

/-- Coupling verdict code. -/
def CouplingVerdict.code : CouplingVerdict → Nat
  | .coupled => 1
  | .uncoupled => 2
  | .inverted => 3
  | .undetermined => 4

/-- Test outcome code. -/
def TestOutcome.code : TestOutcome → Nat
  | .pass => 1
  | .fail => 2
  | .aborted => 3

/-- Drive-link cause code. -/
def Cause.code : Cause → Nat
  | .stale => 1
  | .notReady => 2

/-- One code as an optional field. -/
def optionalCode (c : Option Nat) : List Byte := optional (c.map fun n => [byte n])

/-! ### The items -/

/-- NODE, part 0 (R182, R193). -/
def State.nodeData (s : State) : List Byte :=
  byte s.control.mode.code :: optionalCode (s.control.mode.phase?.map Phase.code)
    ++ byte s.control.authority :: be16s s.balance.integrator
    ++ [byte s.tracker.state.code, byte s.tracker.rung]
    ++ be16 s.tracker.speed ++ flagByte s.tracker.valid :: be16s s.drive.held
    ++ [byte s.drive.staleRun, flagByte s.drive.ready, byte s.line.step.code, byte s.line.badRun,
        flagByte s.startUnit.clamped]

/-- The share result's fields (R89, R193). -/
def ShareResult.data (r : ShareResult) : List Byte :=
  match r.outcome with
  | .unassessed reason =>
    be32 r.evaluation.toNat ++ byte 0 :: optionalCode (some reason.code) ++ byte r.members
      :: optional none ++ optional none ++ optional none ++ optional none ++ optional none ++ optional none
      ++ be16s r.step
  | .assessed t w target e i c =>
    be32 r.evaluation.toNat ++ byte 1 :: optionalCode none ++ byte r.members
      :: optional (some (be32s t)) ++ optional (some (be16 w)) ++ optional (some (be16s target))
      ++ optional (some (be32s e)) ++ optional (some (be32s i)) ++ optional (some (be16s c)) ++ be16s r.step

/-- The draw result's fields (R123, R193). -/
def DrawResult.data (r : DrawResult) : List Byte :=
  match r.outcome with
  | .unassessed reason =>
    be32 r.evaluation.toNat ++ byte 0 :: optionalCode (some reason.code) ++ byte r.upstreamCount
      :: optional (r.upstreamSpeed.map be16) ++ optional none ++ optional none ++ [byte r.run]
  | .assessed own draw =>
    be32 r.evaluation.toNat ++ byte 1 :: optionalCode none ++ byte r.upstreamCount
      :: optional (r.upstreamSpeed.map be16) ++ optional (some (be16 own)) ++ optional (some (be16s draw))
      ++ [byte r.run]

/-- Time remaining to a deadline at a moment, in ms, truncated toward zero (R68). -/
def remaining (clock deadline : Nat) : Nat := (deadline - clock) / 1000

/-- The fields of PEER for an entry that is not ABSENT, with the report it has stored (R68, R193). -/
def PeerEntry.fields (e : PeerEntry) (clock : Nat) (r : Report) : List Byte :=
  [byte e.state.code, byte e.passCount, byte e.disqualification, flagByte e.stale, r.sequence, byte r.shape.group,
    byte r.shape.weight, byte r.shape.position, byte r.shape.period, byte r.contents.mode.code, r.contents.flags]
    ++ be16 r.contents.speed ++ be16s r.contents.torque ++ be16s r.contents.trim
    ++ [byte r.contents.testStep, r.contents.testLevel.toByte, r.contents.countCode]
    ++ optionalCode (e.deadline.map (remaining clock))
    ++ [flagByte e.marker, byte e.seen, byte e.contrary, byte e.quiet, byte e.missed]
    ++ optionalCode (e.verdict.map CouplingVerdict.code)

/-- PEER's data: the state alone for an ABSENT entry (R68). An entry with no stored report is ABSENT. -/
def PeerEntry.data (e : PeerEntry) (clock : Nat) : List Byte :=
  match e.state, e.stored with
  | .absent, _ => [byte PeerState.absent.code]
  | _, some r => e.fields clock r
  | st, none => [byte st.code]

/-- The first key greater than k whose entry is not ABSENT (R69). -/
def State.nextPeer (s : State) (k : Nat) : Option Nat :=
  stations.find? fun n => decide (k < n) && s.isKey n && decide ((s.peer n).state ≠ .absent)

/-- PEER_NEXT's data: the key and its entry, or the none marker (R69, R192). -/
def State.peerNextData (s : State) (k : Nat) : List Byte :=
  match s.nextPeer k with
  | some n => byte n :: (s.peer n).data s.clock
  | none => [0]

/-- FAULTS (R173, R193). -/
def FaultUnit.faultsData (f : FaultUnit) : List Byte :=
  be16 f.status.toNat ++ be16 f.classMap.toNat ++ be16 f.detectMask.toNat ++ be16 f.signalMask.toNat

/-- The first-trip record's fields after its state (R165, R193). -/
def TripContents.data (c : TripContents) (multiple : Bool) : List Byte :=
  [byte c.kind.number, byte c.source] ++ be32 c.evaluation.toNat
    ++ byte c.mode.code :: optionalCode (c.mode.phase?.map Phase.code)
    ++ be16 c.speed ++ flagByte c.speedValid :: be16s c.torque ++ be16s c.integrator ++ byte c.authority
    :: optionalCode c.testStep ++ optionalCode (c.cause.map Cause.code) ++ [flagByte multiple]

/-- FIRST_TRIP: absent while EMPTY (R173). -/
def FaultUnit.firstTripData (f : FaultUnit) : Option (List Byte) :=
  match f.firstTrip with
  | .empty => none
  | .locked c => some (byte 1 :: c.data f.multipleTrip)
  | .released c => some (byte 2 :: c.data f.multipleTrip)

/-- The first-warn record's fields after its state (R167, R193). -/
def WarnContents.data (c : WarnContents) (multiple : Bool) : List Byte :=
  [byte c.kind.number, byte c.source] ++ be32 c.evaluation.toNat ++ [flagByte multiple]

/-- FIRST_WARN: absent while EMPTY (R173). -/
def FaultUnit.firstWarnData (f : FaultUnit) : Option (List Byte) :=
  match f.firstWarn with
  | .empty => none
  | .locked c => some (byte 1 :: c.data f.multipleWarn)
  | .released c => some (byte 2 :: c.data f.multipleWarn)

/-- VERDICT (R143, R193). -/
def Verdict.data (v : Verdict) : List Byte :=
  byte v.outcome.code :: be16 v.count ++ byte v.steps :: be16 v.baseline

/-- TUNING, with the pin in force (R182, R193). -/
def State.tuningData (s : State) : List Byte :=
  let t := s.handler.tuning
  be16 t.shareGain ++ be16 t.deadband ++ be16 t.rateLimit ++ be16 t.trimLimit ++ be16 t.shareTolerance
    ++ be16s t.drawSetpoint ++ be16 t.drawTolerance ++ byte t.couplingWindow :: be16 t.couplingThreshold
    ++ optionalCode s.tracker.pin

/-- SNAPSHOT's data (R183, R193). -/
def Snapshot.data (c : Snapshot) : List Byte :=
  be32 c.evaluations.toNat ++ be32 c.reportsSent.toNat ++ be32 c.goodFrames.toNat ++ be16 c.badFrames
    ++ be32 c.torqueTaken.toNat ++ be16 c.torqueDiscarded ++ be16 c.directivesTaken.toNat ++ be16 c.answersDropped
    ++ be16 c.responseCount

/-- The live counter set as a copy (R183). -/
def State.liveCounters (s : State) : Snapshot :=
  { evaluations := s.control.evaluations, reportsSent := s.line.reportsSent, goodFrames := s.line.goodFrames,
    badFrames := s.line.badFrames, torqueTaken := s.drive.framesTaken, torqueDiscarded := s.drive.discards,
    directivesTaken := s.handler.taken, answersDropped := s.handler.dropped,
    responseCount := s.excitation.count }

/-- The data of one READ item at an index; none where it is answered BAD_VALUE: an item or index out of range, or an
absent item (R181). -/
def State.readItem (s : State) (item index : Nat) : Option (List Byte) :=
  match item with
  | 1 =>
    match index with
    | 0 => some s.nodeData
    | 1 => some (optional (s.balance.result.map ShareResult.data))
    | 2 => some (optional (s.draw.result.map DrawResult.data))
    | _ => none
  | 2 => if s.isKey index then some ((s.peer index).data s.clock) else none
  | 3 => if index ≤ 40 then some (s.peerNextData index) else none
  | 4 => some s.fault.faultsData
  | 5 => (Kind.ofNumber? index).map fun k => [byte (s.fault.countOf k)]
  | 6 => s.fault.firstTripData
  | 7 => s.fault.firstWarnData
  | 8 => s.excitation.pattern.map patternChars
  | 9 => s.excitation.verdict.map Verdict.data
  | 10 => some s.tuningData
  | 11 => s.handler.snapshot.map Snapshot.data
  | _ => none

end Sys2Proof.Machine
end

