-- ==== Sys2Proof/Machine/Directives.lean ====
section
/-! DEFINITION. The directive handler (spec/11): addressing, the answer queue, and the carrying out of each kind
(R100 to R107, R127 to R131, R141, R171, R175 to R184). -/

namespace Sys2Proof.Machine

/-- How a directive taken is answered, and the node it leaves (R176). -/
structure Reply where
  outcome : AnswerOutcome
  data    : List Byte
  node    : State
  deriving DecidableEq, Repr

/-- An answer that names why the directive was not carried out; no state changes (R176). -/
def refuse (o : AnswerOutcome) (s : State) : Reply := { outcome := o, data := [], node := s }

/-- An answer DONE. -/
def done (s : State) : Reply := { outcome := .done, data := [], node := s }

/-- DONE, or CLAMPED where a value was clamped. -/
def clampedOrDone (clamped : Bool) (s : State) : Reply :=
  { outcome := if clamped then .clamped else .done, data := [], node := s }

/-! ### SET_MODE (R100 to R107) -/

/-- The first failing condition of entry to TRIM from REPORT (R101). -/
def State.trimBar (s : State) : Option AnswerOutcome :=
  if s.tracker.valid = false then some .wrongMode
  else if s.drive.ready = false ∨ s.drive.stale = true then some .wrongMode
  else if s.image.group = 0 then some .badValue
  else if s.fault.tripPending = true then some .faultPending
  else none

/-- Entry to TRIM: FADE_IN with a = 0 and y = 0 (R102). -/
def State.enterTrim (s : State) : State :=
  State.changeMode { s with control := { s.control with authority := 0, trim := 0 } } (.trim .fadeIn)

/-- SET_MODE toward REPORT in FADE_IN or FULL: a fade-out from a, or the end of TRIM at once while a is 0 (R106). -/
def State.beginFadeOut (s : State) : State :=
  if s.control.authority = 0 then s.changeMode .report else s.changePhase .fadeOut

/-- SET_MODE toward TRIM in FADE_OUT: back to FADE_IN, or to FULL while a still stands at F (R107). -/
def State.reverseFade (s : State) : State :=
  if s.control.authority = s.image.fadeLength then s.changePhase .full else s.changePhase .fadeIn

/-- SET_MODE toward LISTEN (R100). -/
def State.towardListen (s : State) : Reply :=
  match s.control.mode with
  | .listen => done s
  | .report => done (s.changeMode .listen)
  | _ => refuse .wrongMode s

/-- SET_MODE toward REPORT (R100). -/
def State.towardReport (s : State) : Reply :=
  match s.control.mode with
  | .listen => done (s.changeMode .report)
  | .report => done s
  | .trim .fadeOut => done s
  | .trim _ => done s.beginFadeOut
  | _ => refuse .wrongMode s

/-- SET_MODE toward TRIM (R100, R101). -/
def State.towardTrim (s : State) : Reply :=
  match s.control.mode with
  | .report =>
    match s.trimBar with
    | some o => refuse o s
    | none => done s.enterTrim
  | .trim .fadeOut => done s.reverseFade
  | .trim _ => done s
  | _ => refuse .wrongMode s

/-- SET_MODE carried out; the target code is checked before the mode (R100, R192). -/
def State.doSetMode (s : State) (target : Nat) : Reply :=
  match target with
  | 1 => s.towardListen
  | 2 => s.towardReport
  | 3 => s.towardTrim
  | _ => refuse .badValue s

/-! ### Excitation directives (R127 to R131, R141) -/

/-- LOAD_PATTERN carried out on its arguments as read (R127, R128). -/
def State.doLoadPattern (s : State) (n : Nat) (levels : List Byte) (hold amplitude tolerance : Nat) (target : Byte) :
    Reply :=
  if s.control.mode = .test then refuse .wrongMode s
  else if n = 0 ∨ 32 < n then refuse .badValue s
  else
    match parseLevels levels n 0 with
    | none => refuse .badValue s
    | some ls =>
      let p : Pattern :=
        { levels := ls, hold := clampNat 1 255 hold, amplitude := clampNat 1 500 amplitude,
          tolerance := clampNat 1 1000 tolerance, target := target }
      clampedOrDone (decide (¬ (p.hold = hold ∧ p.amplitude = amplitude ∧ p.tolerance = tolerance)))
        { s with excitation := { s.excitation with pattern := some p } }

/-- The first failing condition of START_TEST (R130). -/
def State.testBar (s : State) : Option AnswerOutcome :=
  if s.control.mode ≠ .report then some .wrongMode
  else if s.tracker.valid = false then some .wrongMode
  else if s.drive.stale = true then some .wrongMode
  else if s.excitation.pattern = none then some .badValue
  else if s.fault.tripPending = true then some .faultPending
  else none

/-- The start of a test (R131), with the mode TEST told to the coupling observer (R109, R156). DESIGN CHOICE (log entry
26): the mode is TEST before the observer gives the verdict of an observation with the final mark, so a
COUPLING_MISMATCH of TRIP class that it sends drops the node from TEST and aborts the new test. DEDUCED (log entry 27): the last reference word is 0 from here to the test's first evaluation, as
R136 says of the reports' trim word, which is the last reference word. -/
def State.beginTest (s : State) : State :=
  let s1 :=
    { s with
      excitation :=
        { s.excitation with
          baseline := s.tracker.speed, count := 0, limitPosted := false, stepIndex := 0, position := 0, offset := 0,
          sentStep := 0, sentLevel := .zero, running := true }
      drive := { s.drive with lastWord := 0 } }
  (s1.changeMode .test).observeTestEntry

/-- START_TEST carried out (R130, R131). -/
def State.doStartTest (s : State) : Reply :=
  match s.testBar with
  | some o => refuse o s
  | none => done s.beginTest

/-- STOP_TEST carried out (R141). -/
def State.doStopTest (s : State) : Reply :=
  if s.control.mode = .test then done ((s.endTest .aborted).changeMode .report) else refuse .wrongMode s

/-! ### TUNE (R162, R179, R180) -/

/-- The range of a numeric item (R179). -/
def tuneRange : Nat → Option (Int × Int)
  | 1 => some (0, 4095)
  | 2 => some (0, 1000)
  | 3 => some (1, 500)
  | 4 => some (0, 2000)
  | 5 => some (10, 3000)
  | 6 => some (-200, 500)
  | 7 => some (1, 500)
  | 8 => some (2, 32)
  | 9 => some (10, 5000)
  | _ => none

/-- A numeric item replaced by a value already clamped (R179). -/
def Tuning.set (t : Tuning) (item : Nat) (value : Int) : Tuning :=
  match item with
  | 1 => { t with shareGain := value.toNat }
  | 2 => { t with deadband := value.toNat }
  | 3 => { t with rateLimit := value.toNat }
  | 4 => { t with trimLimit := value.toNat }
  | 5 => { t with shareTolerance := value.toNat }
  | 6 => { t with drawSetpoint := value }
  | 7 => { t with drawTolerance := value.toNat }
  | 8 => { t with couplingWindow := value.toNat }
  | 9 => { t with couplingThreshold := value.toNat }
  | _ => t

/-- GATE_PIN: −1 is none; a value that is neither it nor a rung is clamped to the nearer rung (R180, R192). -/
def State.tunePin (s : State) (value : Int) : Reply :=
  let pin : Option Nat := if value = -1 then none else some (clampInt 0 7 value).toNat
  clampedOrDone (decide (¬ (value = -1 ∨ (0 ≤ value ∧ value ≤ 7))))
    { s with tracker := { s.tracker with requested := pin } }

/-- A kind that a mask item may name (R180). -/
def maskKind? (number : Nat) : Option Kind :=
  match Kind.ofNumber? number with
  | some k => if k.fixed then none else some k
  | none => none

/-- The detect mask of a kind set or cleared; setting it clears the kind where it is set in status (R162). -/
def FaultUnit.setDetect (f : FaultUnit) (k : Kind) (on : Bool) : FaultUnit :=
  if on then
    let f1 := { f with detectMask := f.detectMask ||| k.flag }
    if holds f.status k then f1.clear k.flag else f1
  else { f with detectMask := f.detectMask &&& ~~~k.flag }

/-- The signal mask of a kind set or cleared; the lines follow at once (R162, R169). -/
def FaultUnit.setSignal (f : FaultUnit) (k : Kind) (on : Bool) : FaultUnit :=
  FaultUnit.driveLines
    { f with signalMask := if on then f.signalMask ||| k.flag else f.signalMask &&& ~~~k.flag }

/-- A mask item: the kind number and 0 or 1 (R180). -/
def State.tuneMask (s : State) (set : FaultUnit → Kind → Bool → FaultUnit) (number value : Nat) : Reply :=
  match maskKind? number, value with
  | some k, 0 => done { s with fault := set s.fault k false }
  | some k, 1 => done { s with fault := set s.fault k true }
  | _, _ => refuse .badValue s

/-- TUNE carried out on its item code and two value characters (R179). -/
def State.doTune (s : State) (item : Nat) (hi lo : Byte) : Reply :=
  if s.control.mode = .listen ∨ s.control.mode = .report then
    match item with
    | 10 => s.tunePin (s16 hi lo)
    | 11 => s.tuneMask FaultUnit.setDetect hi.toNat lo.toNat
    | 12 => s.tuneMask FaultUnit.setSignal hi.toNat lo.toNat
    | _ =>
      match tuneRange item with
      | none => refuse .badValue s
      | some (least, most) =>
        let v := clampInt least most (s16 hi lo)
        clampedOrDone (decide (v ≠ s16 hi lo))
          { s with handler := { s.handler with tuning := s.handler.tuning.set item v } }
  else refuse .wrongMode s

/-! ### The other kinds -/

/-- CLEAR_FAULTS carried out (R171). -/
def State.doClearFaults (s : State) (kinds : KindSet) : Reply := done { s with fault := s.fault.clear kinds }

/-- READ carried out (R181). -/
def State.doRead (s : State) (item index : Nat) : Reply :=
  match s.readItem item index with
  | some data => { outcome := .done, data := data, node := s }
  | none => refuse .badValue s

/-- SNAPSHOT carried out: every live counter copied (R183). -/
def State.takeSnapshot (s : State) : State :=
  { s with handler := { s.handler with snapshot := some s.liveCounters } }

/-! ### Taking a directive (R175 to R177) -/

/-- The argument characters each kind needs (R175, R192). -/
def argsNeeded : Nat → Nat
  | 1 => 1
  | 2 => 15
  | 5 => 2
  | 6 => 3
  | 7 => 2
  | _ => 0

/-- Argument character i. -/
def arg (args : List Byte) (i : Nat) : Byte := (args[i]?).getD 0

/-- A directive taken with enough argument characters, carried out by its kind (R175). -/
def State.carryOut (s : State) (kind : Nat) (args : List Byte) : Reply :=
  match kind with
  | 1 => s.doSetMode (arg args 0).toNat
  | 2 =>
    s.doLoadPattern (arg args 0).toNat ((args.drop 1).take 8) (arg args 9).toNat (u16 (arg args 10) (arg args 11))
      (u16 (arg args 12) (arg args 13)) (arg args 14)
  | 3 => s.doStartTest
  | 4 => s.doStopTest
  | 5 => s.doClearFaults (BitVec.ofNat 16 (u16 (arg args 0) (arg args 1)))
  | 6 => s.doTune (arg args 0).toNat (arg args 1) (arg args 2)
  | 7 => s.doRead (arg args 0).toNat (arg args 1).toNat
  | 8 => done s.takeSnapshot
  | 9 => done s
  | _ => refuse .unknown s

/-- A kind code that is one of R192's nine. -/
def knownKind (kind : Nat) : Bool := decide (1 ≤ kind) && decide (kind ≤ 9)

/-- The reply to an addressed directive taken: too few argument characters are answered BAD_VALUE (R175). -/
def State.reply (s : State) (kind : Nat) (args : List Byte) : Reply :=
  if knownKind kind ∧ args.length < argsNeeded kind then refuse .badValue s else s.carryOut kind args

/-- One directive counted as taken (R175). -/
def State.countDirective (s : State) : State := { s with handler := { s.handler with taken := s.handler.taken + 1 } }

/-- An answer joins the queue at its tail (R177), and the transmitter has something to send (R37). -/
def State.enqueue (s : State) (a : Answer) : State :=
  State.settleTx { s with handler := { s.handler with queue := s.handler.queue ++ [a] } }

/-- An addressed directive taken: counted, carried out, answered once (R175, R176). -/
def State.takeAddressed (s : State) (terminal tag kind : Byte) (args : List Byte) : State :=
  let r := s.countDirective.reply kind.toNat args
  r.node.enqueue
    { terminal := terminal, tag := tag, outcome := r.outcome, data := r.data, resets := decide (kind = 9) }

/-- An addressed directive that finds the queue full: not taken (R177). -/
def State.dropDirective (s : State) (terminal : Byte) : State :=
  State.takeNotice
    { s with handler := { s.handler with dropped := satInc Config.counter16Max s.handler.dropped } }
    (notice .answerOverflow terminal.toNat)

/-- A broadcast: STOP_TEST and SNAPSHOT are taken and not answered; any other kind is ignored (R175). -/
def State.takeBroadcast (s : State) (kind : Byte) : State :=
  if kind = 4 then s.countDirective.doStopTest.node
  else if kind = 8 then s.countDirective.takeSnapshot
  else s

/-- A good DIRECTIVE frame's payload at the handler (R175, R177). -/
def State.directive (s : State) (terminal : Byte) (payload : List Byte) : State :=
  match payload with
  | target :: tag :: kind :: args =>
    if target.toNat = s.own then
      if s.handler.queue.length < Config.queueDepth then s.takeAddressed terminal tag kind args
      else s.dropDirective terminal
    else if target = 0 then s.takeBroadcast kind
    else s
  | _ => s

end Sys2Proof.Machine
end

