-- ==== Sys2Proof/Machine/PeerTable.lean ====
section
/-! DEFINITION. The peer table (spec/04): reports taken, watchdog expiry, loss of step. -/

namespace Sys2Proof.Machine

/-- An entry in PROBATION with a pass count of 0 (R48). -/
def PeerEntry.lapsed (e : PeerEntry) : Bool := decide (e.state = .probation) && decide (e.passCount = 0)

/-- The three cases of a report taken (R51). -/
inductive ReportCase where
  | start | continuation | break
  deriving DecidableEq, Repr

/-- The case of a report, decided by the entry as it stands before it (R51). -/
def PeerEntry.caseOf (e : PeerEntry) (r : Report) : ReportCase :=
  if e.state = .absent ∨ e.lapsed = true then .start
  else
    match e.stored with
    | some old => if r.sequence = old.sequence + 1 ∧ r.shape = old.shape then .continuation else .break
    | none => .break

/-- The pass count after a report (R52 to R54). -/
def PeerEntry.passAfter (e : PeerEntry) (q : Nat) : ReportCase → Nat
  | .start => 1
  | .continuation => min q (e.passCount + 1)
  | .break => 1

/-- The entry after a report taken at this moment (R52 to R55). -/
def PeerEntry.take (e : PeerEntry) (q moment : Nat) (r : Report) : PeerEntry :=
  { e with
    state := if e.passAfter q (e.caseOf r) = q then .qualified else .probation
    passCount := e.passAfter q (e.caseOf r)
    disqualification :=
      if e.caseOf r = .break then satInc Config.runMax e.disqualification else e.disqualification
    stored := some r
    stale := false
    deadline := some (moment + 2 * r.shape.period * 1000) }

/-- What a break does besides the entry's update: PEER_UNSTEADY where the entry was QUALIFIED, and the demotion told
(R54, R56, R63). The notice is taken before the observer is told (log entry 12). -/
def State.afterBreak (s : State) (k : Nat) (wasQualified : Bool) : State :=
  (if wasQualified then s.takeNotice (notice .peerUnsteady k) else s).observeDemotion { station := k, cause := .unsteady }

/-- A report of station k taken (R51 to R56, R63, R64). -/
def State.takeReport (s : State) (k : Nat) (r : Report) : State :=
  let e := s.peer k
  let s1 := s.setPeer k (e.take s.image.passThreshold s.clock r)
  let s2 := if e.caseOf r = .break then s1.afterBreak k (decide (e.state = .qualified)) else s1
  s2.observeUpdate k (e.stored.map Report.contents) r.contents

/-- A report arrival at the table: refused or taken (R50). -/
def State.reportArrives (s : State) (k : Nat) (payload : List Byte) : State :=
  match parseReport payload with
  | some r => s.takeReport k r
  | none => s

/-- An entry lapsed by expiry or loss of step (R59, R61). -/
def PeerEntry.lapse (e : PeerEntry) : PeerEntry :=
  { e with state := .probation, passCount := 0, stale := true, deadline := none }

/-- The watchdog of station k expires: the entry lapses, PEER_LOST where it was QUALIFIED, the demotion told (R59,
R63). -/
def State.expire (s : State) (k : Nat) : State :=
  let e := s.peer k
  let s1 := s.setPeer k e.lapse
  let s2 := if e.state = .qualified then s1.takeNotice (notice .peerLost k) else s1
  s2.observeDemotion { station := k, cause := .watchdog }

/-- At this moment the watchdog of this station is looked at: it expires where it is armed and its deadline is reached.
A report taken first has re-armed the deadline, and the expiry does not happen (R60). In HOLD the watchdogs stop (R57). -/
def State.watchdogDue (s : State) (due : WatchdogDue) : State :=
  match s.control.mode.lineOn, (s.peer due.station).deadline with
  | true, some d =>
    if d ≤ max s.clock due.moment then State.expire { s with clock := max s.clock due.moment } due.station else s
  | _, _ => s

/-- An entry's part of a loss of step: demoted, the demotion told with its cause, unless ABSENT (R61, R63, R155). -/
def PeerEntry.loseStep (e : PeerEntry) : PeerEntry :=
  if e.state = .absent then e else e.lapse.abandon .outOfStep

/-- Whether a loss of step abandons the observation in the slot (R155). -/
def State.slotAbandoned (s : State) : Bool :=
  match s.observation.peer? with
  | some p => (s.peer p).marker && decide ((s.peer p).state ≠ .absent)
  | none => false

/-- Loss of step: every entry that is not ABSENT is demoted, and each demotion is told (R61, R63, R155). -/
def State.loseStep (s : State) : State :=
  { s with
    peers := Vector.ofFn fun i => s.peers[i].loseStep
    observation := if s.slotAbandoned then .empty else s.observation }

/-- WATCHDOG_EXPIRY (R57 to R60). -/
def execWatchdogExpiry (due : WatchdogDue) (s : State) : Host.Outcome State Fault Refusal := .next (s.watchdogDue due)

end Sys2Proof.Machine
end

