-- ==== Sys2Proof/Machine/Start.lean ====
section
/-! DEFINITION. The resets and the end of START (spec/12, R96, R186 to R189; and each chapter's Reset section). -/

namespace Sys2Proof.Machine

/-- The node after a hardware reset, with START at this place: a read in progress is abandoned, a REFERENCE frame being
sent breaks off (R28, R186); the queue and the model's clock go on. The start-clamp flag is clear until the start check:
DESIGN CHOICE, log entry 28. -/
def State.hardReset (s : State) (phase : StartPhase) : State :=
  { State.reset with
    pending := s.pending
    clock := s.clock
    startUnit := StartUnit.atReset phase }

/-- HARDWARE_RESET (R96, R186): power-on or release of the reset pin; the read of the start record begins. -/
def execHardwareReset (s : State) : Host.Outcome State Fault Refusal := .next (s.hardReset .reading)

/-- RESET_PIN_ASSERTED (R96): START with every block at its reset values while the pin is held. -/
def execResetPinAsserted (s : State) : Host.Outcome State Fault Refusal := .next (s.hardReset .pinHeld)

/-- The fault settings loaded from an image (R161, R162, R174). -/
def FaultUnit.load (f : FaultUnit) (i : Image) : FaultUnit :=
  FaultUnit.driveLines { f with classMap := i.classMap, detectMask := i.detectMask, signalMask := i.signalMask }

/-- START ends in LISTEN (R96): the select of the start memory is released (R186), the receiver begins in WAIT_IDLE
(R31), the first gate at the floor rung with no edges (R1, R16). -/
def State.enterListen (s : State) : State :=
  let s1 := s.changeMode .listen
  { s1 with
    startUnit := { s1.startUnit with phase := .over, port := .idle }
    line := { s1.line with rx := .waitIdle }
    tracker := Tracker.atReset s1.image.floorRung }

/-- A good record: the image formed and given to the blocks, and START ends in LISTEN (R187, R188). -/
def State.startGood (s : State) (record : List Byte) : State :=
  State.enterListen
    { s with
      startUnit := { s.startUnit with image := some (recordImage record), clamped := recordClamped record }
      fault := s.fault.load (recordImage record)
      handler := { s.handler with tuning := (recordImage record).tuning } }

/-- A bad record: no image; the default settings, then CONFIG, whose drop takes the node to HOLD; the tracker works on
from R187's default values (R97, R187). -/
def State.startBad (s : State) : State :=
  State.takeNotice
    { s with
      startUnit := StartUnit.atReset .over
      fault := s.fault.load Image.fallback
      tracker := Tracker.atReset Image.fallback.floorRung }
    (notice .config 0)

/-- START_CHECK (R187): the read of the record completes. Nothing where no read is in progress. -/
def execStartCheck (record : List Byte) (s : State) : Host.Outcome State Fault Refusal :=
  .next
    (if s.control.mode = .start ∧ s.startUnit.phase = .reading then
      if recordGood record then s.startGood record else s.startBad
     else s)

/-- The soft reset (R189): every block at its soft-reset values; the first-trip record with its flag, the pattern, the
image and the start-clamp flag survive, and a REFERENCE frame being sent goes on to its end (R28). -/
def State.softReset (s : State) : State :=
  { pending := s.pending
    clock := s.clock
    startUnit := { s.startUnit with phase := .reapplying }
    tracker := Tracker.atReset s.image.floorRung
    drive := { DriveLink.atReset with sending := s.drive.sending, frame := s.drive.frame }
    line := Line.atReset
    peers := Vector.replicate 40 PeerEntry.atReset
    balance := Balance.atReset
    control := ModeControl.atReset
    draw := Draw.atReset
    excitation := Excitation.atReset s.excitation.pattern
    observation := .empty
    fault :=
      { FaultUnit.atReset s.image.classMap s.image.detectMask s.image.signalMask with
        firstTrip := s.fault.firstTrip, multipleTrip := s.fault.multipleTrip }
    handler := Handler.atReset s.image.tuning }

/-- SOFT_START_END (R96, R189): the image has been reapplied. Nothing where no soft reset is in progress. -/
def execSoftStartEnd (s : State) : Host.Outcome State Fault Refusal :=
  .next (if s.control.mode = .start ∧ s.startUnit.phase = .reapplying then s.enterListen else s)

end Sys2Proof.Machine
end

