-- ==== Sys2Proof/Machine/Line.lean ====
section
/-! DEFINITION. The section line (spec/03): frames judged and routed, attempts and how they end. -/

namespace Sys2Proof.Machine

/-! ### Receiving (R31 to R36) -/

/-- The receiver is taking a frame: it has found the line idle (R31). An own attempt may be in progress: the receiver
then takes what other stations send (R40, R41, R177; log entry 5). -/
def State.canReceive (s : State) : Bool :=
  s.control.mode.lineOn && (decide (s.line.rx = .ready) || decide (s.line.rx = .receiving))

/-- A REPORT or ANSWER frame that is the one the node itself is sending, which the receiver does not take (R31). -/
def State.isOwnFrame (s : State) (c : Byte) (payload : List Byte) : Bool :=
  decide (frameClass c ≠ 0) && decide (s.line.attempt.map Attempt.frame = some (frameChars c payload))

/-- A frame judged good: counted, the bad-frame run 0, IN_STEP, the receiver back to WAIT_IDLE (R31, R34, R35). -/
def State.countGood (s : State) (moment : Nat) : State :=
  { s with
    clock := max s.clock moment
    line := { s.line with goodFrames := s.line.goodFrames + 1, badRun := 0, step := .inStep, rx := .waitIdle } }

/-- A good frame routed by its class and station (R35, R36). -/
def State.route (s : State) (c : Byte) (payload : List Byte) : State :=
  match frameClass c with
  | 0 => s.directive c payload
  | 1 => if frameStation c = s.own then s.takeNotice (notice .idClash s.own) else s
  | 2 => if frameStation c = s.own then s.takeNotice (notice .idClash s.own) else s.reportArrives (frameStation c) payload
  | _ => s

/-- Whether a bad frame takes the receiver out of step: it is IN_STEP and the run comes to K (R34). -/
def State.losesStep (s : State) : Bool :=
  decide (s.line.step = .inStep) && decide (s.line.badRun + 1 = s.image.badThreshold)

/-- A frame judged bad, or an own attempt treated as one: counted, the run advanced while IN_STEP, LINE_CHECK sent,
and at K the loss of step with LINE_STEP in the same set (R33, R34, R61, R164). -/
def State.judgeBad (s : State) : State :=
  let s1 : State :=
    { s with line :=
        { s.line with
          badFrames := satInc Config.counter16Max s.line.badFrames
          badRun := if s.line.step = .inStep then s.line.badRun + 1 else s.line.badRun
          step := if s.losesStep then .outOfStep else s.line.step
          rx := .waitIdle } }
  if s.losesStep then (s1.takeNotices [notice .lineStep 0, notice .lineCheck 0]).loseStep
  else s1.takeNotice (notice .lineCheck 0)

/-- A frame of this contention field and payload whose check word and delimiters hold: judged on class, station and
length, then routed (R32, R35). The node's own frame is not taken (R31). -/
def State.receive (s : State) (moment : Nat) (c : Byte) (payload : List Byte) : State :=
  if s.canReceive = true ∧ s.isOwnFrame c payload = false then
    if contentionOk c ∧ lengthOk c payload.length then (s.countGood moment).route c payload else s.judgeBad
  else s

/-- A frame judged bad, where the receiver is taking one (R33). -/
def State.receiveBad (s : State) : State := if s.canReceive then s.judgeBad else s

/-- The characters of a frame judged under R32, and routed where they are good (R35). -/
def State.receiveChars (s : State) (moment : Nat) (chars : List Byte) : State :=
  match judgeFrame chars with
  | some (c, payload) => s.receive moment c payload
  | none => s.receiveBad

/-- GOOD_FRAME (R35). -/
def execGoodFrame (moment : Nat) (chars : List Byte) (s : State) : Host.Outcome State Fault Refusal :=
  .next (s.receiveChars moment chars)

/-- REPORT_ARRIVAL (R50): a REPORT frame of this station. -/
def execReportArrival (moment : Nat) (station : BitVec 6) (payload : List Byte) (s : State) :
    Host.Outcome State Fault Refusal :=
  .next (s.receive moment (contention 2 station) payload)

/-- BAD_FRAME (R33). -/
def execBadFrame (s : State) : Host.Outcome State Fault Refusal := .next s.receiveBad

/-- LINE_IDLE (R31): the receiver passes from WAIT_IDLE to READY. The line is not idle while the node sends. -/
def execLineIdle (s : State) : Host.Outcome State Fault Refusal :=
  .next
    (if s.control.mode.lineOn ∧ s.line.rx = .waitIdle ∧ s.line.attempt = none then
      { s with line := { s.line with rx := .ready } }
     else s)

/-! ### Transmitting (R37 to R44) -/

/-- The report's contents as read at an attempt's start, each the latest value of its owner; the trim word is the last
reference word (R27, R42, R136). -/
def State.reportContents (s : State) : Report :=
  { sequence := s.line.sequence
    shape :=
      { group := s.image.group, weight := s.image.weight, position := s.image.position, period := s.image.period }
    contents :=
      { mode :=
          match s.control.mode with
          | .trim _ => .trim
          | .test => .test
          | _ => .report
        speedValid := s.tracker.valid
        torqueStale := s.drive.stale
        summary := s.fault.summary
        testRunning := s.excitation.running
        speed := s.tracker.speed
        torque := s.drive.held
        trim := s.drive.lastWord
        testStep := if s.excitation.running then s.excitation.sentStep else 0
        testLevel := if s.excitation.running then s.excitation.sentLevel else .zero
        countCode := floatEncode s.excitation.count } }

/-- Outcome code of an answer (R192). -/
def AnswerOutcome.code : AnswerOutcome → Nat
  | .done => 0
  | .clamped => 1
  | .wrongMode => 2
  | .badValue => 3
  | .faultPending => 4
  | .unknown => 5

/-- An ANSWER's payload (R192). -/
def Answer.payload (a : Answer) : List Byte := a.terminal :: a.tag :: byte a.outcome.code :: a.data

/-- What an attempt sends: the head answer before a pending report (R40). -/
def State.chooseAttempt (s : State) : Option Attempt :=
  match s.handler.queue with
  | a :: _ =>
    some { source := .answer, frame := frameChars (contention 1 (BitVec.ofNat 6 s.own)) a.payload }
  | [] =>
    if s.line.reportDue then
      some { source := .report,
             frame := frameChars (contention 2 (BitVec.ofNat 6 s.own)) (composeReport s.reportContents) }
    else none

/-- An attempt begun on the idle line, with something to send; the refill mark is cleared (R37, R40, R43). -/
def State.beginAttempt (s : State) : State :=
  if s.control.mode.lineOn ∧ s.line.rx = .ready ∧ s.line.attempt = none then
    match s.chooseAttempt with
    | some a =>
      { s with line := { s.line with attempt := some a, tx := .contending, rx := .receiving, refill := false } }
    | none => s
  else s

/-- ATTEMPT (R37, R40). -/
def execAttempt (s : State) : Host.Outcome State Fault Refusal := .next s.beginAttempt

/-- The passage from CONTENDING to SENDING once the contention field is out (R38). -/
def State.winContention (s : State) : State :=
  if s.line.tx = .contending then { s with line := { s.line with tx := .sending } } else s

/-- The end of an attempt: the transmitter returns to DEFERRING or IDLE (R37). -/
def State.endAttempt (s : State) (rx : RxState) : State :=
  State.settleTx { s with line := { s.line with attempt := none, rx := rx } }

/-- An attempt is in progress, in a mode in which the line works (R29, R37). -/
def State.isSending (s : State) : Bool := s.control.mode.lineOn && s.line.attempt.isSome

/-- CONTENTION_LOST (R38): the frame keeps its place, and the receiver takes the winner's. -/
def execContentionLost (s : State) : Host.Outcome State Fault Refusal :=
  .next (if s.isSending ∧ s.line.tx = .contending then s.endAttempt .receiving else s)

/-- The frame aborted for a payload bit loss, and ID_CLASH sent with source 0 (R39). -/
def State.loseBit (s : State) : State :=
  if s.isSending then (s.endAttempt .waitIdle).takeNotice (notice .idClash 0) else s

/-- The frame aborted for a faulty bit: the attempt is treated as a bad frame, and the frame keeps its place (R39). -/
def State.faultBit (s : State) : State := if s.isSending then (s.endAttempt .waitIdle).judgeBad else s

/-- PAYLOAD_BIT_LOSS (R39). -/
def execPayloadBitLoss (s : State) : Host.Outcome State Fault Refusal := .next s.loseBit

/-- FAULTY_BIT_ABORT (R39). -/
def execFaultyBitAbort (s : State) : Host.Outcome State Fault Refusal := .next s.faultBit

/-- Whether the attempt in progress sends from this source. -/
def State.attempting (s : State) (src : Source) : Bool :=
  match s.line.attempt with
  | some a => s.control.mode.lineOn && decide (a.source = src)
  | none => false

/-- REPORT_SENT (R43). -/
def execReportSent (s : State) : Host.Outcome State Fault Refusal :=
  .next
    (if s.attempting .report then
      State.endAttempt
        { s with line :=
            { s.line with
              sequence := s.line.sequence + 1
              reportsSent := s.line.reportsSent + 1
              reportDue := s.line.refill } }
        .waitIdle
     else s)

/-- An ANSWER sent whole: the head leaves the queue (R44); after a RESET's answer the soft reset takes place (R189). -/
def State.answerDone (s : State) : State :=
  if s.attempting .answer then
    match s.handler.queue with
    | a :: rest =>
      if a.resets then s.softReset
      else State.endAttempt { s with handler := { s.handler with queue := rest } } .waitIdle
    | [] => s.endAttempt .waitIdle
  else s

/-- ANSWER_SENT (R44). -/
def execAnswerSent (s : State) : Host.Outcome State Fault Refusal := .next s.answerDone

/-! ### The directive commands: DIRECTIVE frames by kind (R175, R192) -/

/-- A DIRECTIVE frame of this head, kind and arguments received. -/
def State.receiveDirective (s : State) (head : DirectiveHead) (kind : Byte) (args : List Byte) : State :=
  s.receive head.moment (contention 0 head.terminal) (head.target :: head.tag :: kind :: args)

/-- SET_MODE, kind 1 (R100). -/
def execSetMode (head : DirectiveHead) (args : List Byte) (s : State) : Host.Outcome State Fault Refusal :=
  .next (s.receiveDirective head 1 args)

/-- LOAD_PATTERN, kind 2 (R127). -/
def execLoadPattern (head : DirectiveHead) (args : List Byte) (s : State) : Host.Outcome State Fault Refusal :=
  .next (s.receiveDirective head 2 args)

/-- START_TEST, kind 3 (R130). -/
def execStartTest (head : DirectiveHead) (args : List Byte) (s : State) : Host.Outcome State Fault Refusal :=
  .next (s.receiveDirective head 3 args)

/-- STOP_TEST, kind 4 (R141). -/
def execStopTest (head : DirectiveHead) (args : List Byte) (s : State) : Host.Outcome State Fault Refusal :=
  .next (s.receiveDirective head 4 args)

/-- CLEAR_FAULTS, kind 5 (R171). -/
def execClearFaults (head : DirectiveHead) (args : List Byte) (s : State) : Host.Outcome State Fault Refusal :=
  .next (s.receiveDirective head 5 args)

/-- TUNE, kind 6, of this item (R179). -/
def execTune (head : DirectiveHead) (item : Byte) (value : List Byte) (s : State) :
    Host.Outcome State Fault Refusal :=
  .next (s.receiveDirective head 6 (item :: value))

/-- TUNE of item 10, GATE_PIN (R180). -/
def execTuneGatePin (head : DirectiveHead) (value : List Byte) (s : State) : Host.Outcome State Fault Refusal :=
  .next (s.receiveDirective head 6 (10 :: value))

/-- TUNE of item 11, the detect mask (R162, R180). -/
def execTuneDetectMask (head : DirectiveHead) (value : List Byte) (s : State) : Host.Outcome State Fault Refusal :=
  .next (s.receiveDirective head 6 (11 :: value))

/-- TUNE of item 12, the signal mask (R162, R180). -/
def execTuneSignalMask (head : DirectiveHead) (value : List Byte) (s : State) : Host.Outcome State Fault Refusal :=
  .next (s.receiveDirective head 6 (12 :: value))

/-- READ of item 1, NODE (R182). -/
def execReadNode (head : DirectiveHead) (index : List Byte) (s : State) : Host.Outcome State Fault Refusal :=
  .next (s.receiveDirective head 7 (1 :: index))

/-- READ of item 2, PEER (R68). -/
def execReadPeer (head : DirectiveHead) (index : List Byte) (s : State) : Host.Outcome State Fault Refusal :=
  .next (s.receiveDirective head 7 (2 :: index))

/-- READ of item 3, PEER_NEXT (R69). -/
def execReadPeerNext (head : DirectiveHead) (index : List Byte) (s : State) : Host.Outcome State Fault Refusal :=
  .next (s.receiveDirective head 7 (3 :: index))

/-- READ of item 4, FAULTS (R173). -/
def execReadFaults (head : DirectiveHead) (index : List Byte) (s : State) : Host.Outcome State Fault Refusal :=
  .next (s.receiveDirective head 7 (4 :: index))

/-- READ of item 5, COUNTS (R173). -/
def execReadCounts (head : DirectiveHead) (index : List Byte) (s : State) : Host.Outcome State Fault Refusal :=
  .next (s.receiveDirective head 7 (5 :: index))

/-- READ of item 6, FIRST_TRIP (R173). -/
def execReadFirstTrip (head : DirectiveHead) (index : List Byte) (s : State) : Host.Outcome State Fault Refusal :=
  .next (s.receiveDirective head 7 (6 :: index))

/-- READ of item 7, FIRST_WARN (R173). -/
def execReadFirstWarn (head : DirectiveHead) (index : List Byte) (s : State) : Host.Outcome State Fault Refusal :=
  .next (s.receiveDirective head 7 (7 :: index))

/-- READ of item 8, PATTERN (R143). -/
def execReadPattern (head : DirectiveHead) (index : List Byte) (s : State) : Host.Outcome State Fault Refusal :=
  .next (s.receiveDirective head 7 (8 :: index))

/-- READ of item 9, VERDICT (R143). -/
def execReadVerdict (head : DirectiveHead) (index : List Byte) (s : State) : Host.Outcome State Fault Refusal :=
  .next (s.receiveDirective head 7 (9 :: index))

/-- READ of item 10, TUNING (R182). -/
def execReadTuning (head : DirectiveHead) (index : List Byte) (s : State) : Host.Outcome State Fault Refusal :=
  .next (s.receiveDirective head 7 (10 :: index))

/-- READ of item 11, SNAPSHOT (R183). -/
def execReadSnapshot (head : DirectiveHead) (index : List Byte) (s : State) : Host.Outcome State Fault Refusal :=
  .next (s.receiveDirective head 7 (11 :: index))

/-- SNAPSHOT, kind 8 (R183). -/
def execSnapshot (head : DirectiveHead) (args : List Byte) (s : State) : Host.Outcome State Fault Refusal :=
  .next (s.receiveDirective head 8 args)

/-- RESET, kind 9 (R184). -/
def execReset (head : DirectiveHead) (args : List Byte) (s : State) : Host.Outcome State Fault Refusal :=
  .next (s.receiveDirective head 9 args)

/-- UNKNOWN_KIND (R175): a directive of this kind code. -/
def execUnknownKind (head : DirectiveHead) (kind : Byte) (args : List Byte) (s : State) :
    Host.Outcome State Fault Refusal :=
  .next (s.receiveDirective head kind args)

end Sys2Proof.Machine
end

