-- ==== Sys2Proof/Machine/Speed.lean ====
section
/-! DEFINITION. The speed tracker (spec/01): edges, gate ends, the pin. -/

namespace Sys2Proof.Machine

/-- The start image's values that the tracker reads (R2 to R4). -/
structure GateSettings where
  edgeScale : Nat
  floorRung : Nat
  topRung   : Nat
  lockBand  : Nat
  deriving DecidableEq, Repr

/-- The tracker's settings of an image. -/
def Image.gate (i : Image) : GateSettings :=
  { edgeScale := i.edgeScale, floorRung := i.floorRung, topRung := i.topRung, lockBand := i.lockBand }

/-- The surface speed of a gate of n edges at a rung, mm/s (R3). -/
def gateSpeed (edgeScale edges rung : Nat) : Nat :=
  min Config.speedMax (edges * edgeScale / Config.gateLength rung)

/-- The lock band B of a newer estimate v (R4). -/
def lockBand (perMille v : Nat) : Nat := max 2 (v * perMille / 1000)

/-- |v − w|. -/
def speedDistance (v w : Nat) : Nat := (v - w) + (w - v)

/-- The ceiling rung under a pin (R2). -/
def GateSettings.ceiling (g : GateSettings) (pin : Option Nat) : Nat := pin.getD g.topRung

/-- Return to ACQUIRE from LOCKED at a rung: comparison dropped, counts 0 (R8, R9). -/
def Tracker.reacquire (t : Tracker) (rung : Nat) : Tracker :=
  { t with state := .acquire, rung := rung, comparison := none, unlocked := 0, emptyRun := 0, excursions := 0 }

/-- Entry to STANDSTILL at the ceiling rung (R7). -/
def Tracker.standstill (t : Tracker) (ceiling : Nat) : Tracker :=
  { t with state := .standstill, rung := ceiling, latest := none, comparison := none, unlocked := 0, emptyRun := 0,
           excursions := 0 }

/-- In ACQUIRE, one more gate end at this rung that did not lock (R5). The fourth steps up where it may. -/
def Tracker.countUnlocked (g : GateSettings) (t : Tracker) (v : Nat) : Tracker :=
  if t.unlocked + 1 = 4 then
    if t.rung < g.topRung ∧ t.pin = none then { t with unlocked := 0, rung := t.rung + 1, comparison := none }
    else { t with unlocked := 0, comparison := some v }
  else { t with unlocked := t.unlocked + 1, comparison := some v }

/-- In ACQUIRE, a gate end of 16 edges or more (R5). -/
def Tracker.acquireFull (g : GateSettings) (t : Tracker) (v : Nat) : Tracker :=
  match t.comparison with
  | some w =>
    if speedDistance v w ≤ lockBand g.lockBand v then
      { t with state := .locked, comparison := some v, unlocked := 0, emptyRun := 0, excursions := 0 }
    else Tracker.countUnlocked g { t with emptyRun := 0 } v
  | none => Tracker.countUnlocked g { t with emptyRun := 0 } v

/-- In ACQUIRE, a gate end of fewer than 16 edges (R6, R12). -/
def Tracker.acquireThin (g : GateSettings) (t : Tracker) (n : Nat) : Tracker :=
  let t := { t with comparison := none, unlocked := 0 }
  if t.rung < g.topRung ∧ t.pin = none then { t with rung := t.rung + 1, emptyRun := 0 }
  else if t.rung = g.ceiling t.pin ∧ n = 0 then
    if t.emptyRun + 1 = 4 then t.standstill (g.ceiling t.pin) else { t with emptyRun := t.emptyRun + 1 }
  else { t with emptyRun := 0 }

/-- In LOCKED, a gate end of 16 edges or more (R8). -/
def Tracker.lockedFull (g : GateSettings) (t : Tracker) (v : Nat) : Tracker :=
  match t.comparison with
  | some w =>
    if 2 * lockBand g.lockBand v < speedDistance v w then
      if t.excursions + 1 = 2 then t.reacquire g.floorRung
      else { t with comparison := some v, excursions := t.excursions + 1 }
    else { t with comparison := some v, excursions := 0 }
  | none => { t with comparison := some v, excursions := 0 }

/-- In STANDSTILL, a gate end (R10): 16 edges or more begin an acquisition at the ceiling rung. -/
def Tracker.standstillGate (g : GateSettings) (t : Tracker) (n v : Nat) : Tracker :=
  if Config.thinGate ≤ n then { t with state := .acquire, rung := g.ceiling t.pin, latest := some v }
  else { t with rung := g.ceiling t.pin }

/-- The rules of the three states at a gate end of n edges whose speed is v, under the pin in force (R5 to R10). -/
def Tracker.judgeGate (g : GateSettings) (t : Tracker) (n v : Nat) : Tracker :=
  match t.state with
  | .acquire =>
    let t := { t with latest := some v }
    if Config.thinGate ≤ n then Tracker.acquireFull g t v else Tracker.acquireThin g t n
  | .locked =>
    let t := { t with latest := some v }
    if Config.thinGate ≤ n then Tracker.lockedFull g t v else t.reacquire (min (t.rung + 1) g.topRung)
  | .standstill => Tracker.standstillGate g t n v

/-- The rung of the next gate (R11, R12): the pinned rung under a pin; where a pin has just been released in ACQUIRE
or LOCKED, the rung brought into f..t; otherwise the rung the state rules left. -/
def Tracker.nextRung (g : GateSettings) (released : Bool) (t : Tracker) : Nat :=
  match t.pin with
  | some p => p
  | none =>
    if released ∧ t.state ≠ .standstill then clampNat g.floorRung g.topRung t.rung else t.rung

/-- A change of rung from that of the gate that ended: in ACQUIRE it drops the comparison and zeroes the unlocked
count and empty run (R11). -/
def Tracker.moveTo (t : Tracker) (ended rung : Nat) : Tracker :=
  if rung ≠ ended ∧ t.state = .acquire then { t with rung := rung, comparison := none, unlocked := 0, emptyRun := 0 }
  else { t with rung := rung }

/-- A whole gate end: the requested pin comes into force, the gate is judged, the next gate begins with no edges
(R1, R3, R11). -/
def Tracker.gateEnd (g : GateSettings) (t : Tracker) : Tracker :=
  let v := gateSpeed g.edgeScale t.edges t.rung
  let released := t.pin.isSome && t.requested.isNone
  let judged := Tracker.judgeGate g { t with pin := t.requested } t.edges v
  { judged.moveTo t.rung (judged.nextRung g released) with edges := 0 }

/-- A gate end, with SPEED_LOSS where it leaves LOCKED in TRIM or TEST (R14). -/
def State.gateEnd (s : State) : State :=
  let s1 := { s with tracker := s.tracker.gateEnd s.image.gate }
  if s.tracker.valid ∧ ¬ s1.tracker.valid ∧ s.control.mode.hasAuthority then s1.takeNotice (notice .speedLoss 0)
  else s1

/-- The gate length has elapsed; during START no gate runs (R1). -/
def State.gateElapsed (s : State) : State := if s.control.mode = .start then s else s.gateEnd

/-- GATE_END (R1). -/
def execGateEnd (s : State) : Host.Outcome State Fault Refusal := .next s.gateElapsed

/-- ENCODER_EDGE (R1): during START edges are not counted. -/
def execEncoderEdge (s : State) : Host.Outcome State Fault Refusal :=
  .next
    (if s.control.mode = .start then s
     else { s with tracker := { s.tracker with edges := satInc Config.edgeCountMax s.tracker.edges } })

end Sys2Proof.Machine
end

