-- ==== Sys2Proof/Machine/Evaluation.lean ====
section
/-! DEFINITION. An evaluation (R95): the counter, the blocks' works in the order the command carries with the peer table's
events among them, then the applied trim and the report slot, the events taken before the frame is formed, and the
REFERENCE frame; and what passes with no command. -/

namespace Sys2Proof.Machine

/-- The order used where a command's list is no order of the works. -/
def defaultOrder : List EvalWork :=
  [.accumulatorClose, .staleNotice, .fadeStep, .balanceEngine, .drawVerifier, .excitationUnit, .couplingObserver]

/-- Whether `a` stands before `b` in an order. -/
def comesBefore (o : List EvalWork) (a b : EvalWork) : Bool := decide (o.idxOf a < o.idxOf b)

/-- An order of the works: each once, and the close before those that take this evaluation's torque mean and stale run
(R23, R24). -/
def orderOk (o : List EvalWork) : Bool :=
  decide (o.length = 7) && defaultOrder.all (fun w => o.contains w)
    && comesBefore o .accumulatorClose .staleNotice && comesBefore o .accumulatorClose .balanceEngine
    && comesBefore o .accumulatorClose .couplingObserver

/-- The order in which an evaluation's works are taken. -/
def scheduleOf (o : List EvalWork) : List EvalWork := if orderOk o then o else defaultOrder

/-- One piece of work of an evaluation that began in mode `began`. -/
def State.work (began : Mode) (s : State) : EvalWork → State
  | .accumulatorClose => s.closeAccumulator
  | .staleNotice => s.staleNotice began
  | .fadeStep => s.fadeStep
  | .balanceEngine => s.balanceWork
  | .drawVerifier => s.drawWork
  | .excitationUnit => s.excitationWork
  | .couplingObserver => s.observeEvaluation

/-! ### The peer table's events within an evaluation (R66) -/

/-- An event of the peer table, with the effect of its own command. -/
def State.takeTableEvent (s : State) : TableEvent → State
  | .report moment station payload => s.receive moment (contention 2 station) payload
  | .badFrame => s.receiveBad
  | .faultyBitAbort => s.faultBit
  | .watchdogExpiry due => s.watchdogDue due

/-- The node after the events before or during a work, and the entries that the work has read by then, each as it stood
when it was read. -/
def State.takeInterruption (p : State × List (Nat × PeerEntry)) (i : Interruption) : State × List (Nat × PeerEntry) :=
  (p.1.takeTableEvent i.event, p.2 ++ i.read.map fun k => (k, p.1.peer k))

/-- The table as a reader sees it: an entry it has read already as it was then, at its first reading, and any other as
it stands (R66). -/
def State.tableSeen (s : State) (seen : List (Nat × PeerEntry)) : Vector PeerEntry 40 :=
  Vector.ofFn fun i => (seen.lookup (i.val + 1)).getD s.peers[i]

/-- One piece of work by a reader that has read these entries already; the table itself stays as it stands. The other
works look at no more than one entry, which is read whole (R66). -/
def State.workSeeing (began : Mode) (s : State) (seen : List (Nat × PeerEntry)) (w : EvalWork) : State :=
  if seen ≠ [] ∧ (w = .balanceEngine ∨ w = .drawVerifier) then
    { ({ s with peers := s.tableSeen seen } : State).work began w with peers := s.peers }
  else s.work began w

/-- One piece of work with the events of the peer table that fall before or during it, in their order. -/
def State.workDuring (began : Mode) (during : List Interruption) (s : State) (w : EvalWork) : State :=
  let p := (during.filter fun i => decide (i.before = w)).foldl State.takeInterruption (s, [])
  State.workSeeing began p.1 p.2 w

/-- The report slot filled, superseding a pending report; during an attempt the refill mark is set (R41). -/
def State.fillSlot (s : State) : State :=
  if s.control.mode.reports then
    State.settleTx
      { s with line := { s.line with reportDue := true, refill := s.line.refill || s.line.attempt.isSome } }
  else s

/-- The evaluations counter advanced (R95). -/
def State.countEvaluation (s : State) : State :=
  { s with control := { s.control with evaluations := s.control.evaluations + 1 } }

/-- The works of an evaluation in order, with the peer table's events among them. -/
def State.runWorks (s : State) (order : List EvalWork) (during : List Interruption := []) : State :=
  (scheduleOf order).foldl (State.workDuring s.control.mode during) s

/-- The work of an evaluation, complete: the works, the applied trim, the report slot (R41, R95, R105). -/
def State.evaluated (s : State) (order : List EvalWork) (during : List Interruption := []) : State :=
  ((s.countEvaluation.runWorks order during).applyTrim).fillSlot

/-- A test runs whose new offset is in no REFERENCE frame yet. -/
def State.offsetUnsent (s : State) : Bool :=
  s.excitation.running && decide (s.excitation.offset ≠ s.drive.lastWord)

/-- An event taken after an evaluation's work and before its frame, with the effect of its own command (R87, R108,
R112). No attempt begins there while a new offset waits for its frame: a report's step and level agree with its trim
word, which is the last reference word (R27, R136; log entry 27). -/
def State.takeLate (s : State) : LateEvent → State
  | .gateEnd => s.gateElapsed
  | .torqueFrame chars => s.torqueArrives chars
  | .torqueGapCutOff => s.cutTorque
  | .torqueFramingError => s.cutTorque
  | .goodFrame moment chars => s.receiveChars moment chars
  | .badFrame => s.receiveBad
  | .watchdogExpiry due => s.watchdogDue due
  | .payloadBitLoss => s.loseBit
  | .faultyBitAbort => s.faultBit
  | .attempt => if s.offsetUnsent then s else s.beginAttempt
  | .answerSent => s.answerDone

/-- EVALUATION (R95): none during START, where the timer is stopped. The REFERENCE frame follows the mode standing once
the late events have been taken (R25, R108). -/
def execEvaluation (course : Schedule) (s : State) : Host.Outcome State Fault Refusal :=
  .next
    (if s.control.mode = .start then s
     else (course.late.foldl State.takeLate (s.evaluated course.order course.during)).formReference)

/-! ### Between commands -/

/-- What passes with no command: a contention is won (R38), and the REFERENCE frame being sent is sent whole (R26). -/
def State.idle (s : State) : State := { s.winContention with drive := s.drive.sendOut }

end Sys2Proof.Machine
end

