-- ==== Sys2Proof/Machine/Dispatch.lean ====
section
/-! DEFINITION. The dispatch of the commands to their meanings, one arm per row of spec/opcode_table.json. -/

namespace Sys2Proof.Machine

def exec (i : Instr) (s : State) : Host.Outcome State Fault Refusal :=
  match i with
  | .hardwareReset => Sys2Proof.Machine.execHardwareReset s
  | .resetPinAsserted => Sys2Proof.Machine.execResetPinAsserted s
  | .startCheck record => Sys2Proof.Machine.execStartCheck record s
  | .softStartEnd => Sys2Proof.Machine.execSoftStartEnd s
  | .encoderEdge => Sys2Proof.Machine.execEncoderEdge s
  | .gateEnd => Sys2Proof.Machine.execGateEnd s
  | .torqueFrame start word flags sum => Sys2Proof.Machine.execTorqueFrame start word flags sum s
  | .torqueGapCutOff => Sys2Proof.Machine.execTorqueGapCutOff s
  | .evaluation course => Sys2Proof.Machine.execEvaluation course s
  | .reportArrival moment station payload => Sys2Proof.Machine.execReportArrival moment station payload s
  | .goodFrame moment chars => Sys2Proof.Machine.execGoodFrame moment chars s
  | .badFrame => Sys2Proof.Machine.execBadFrame s
  | .watchdogExpiry due => Sys2Proof.Machine.execWatchdogExpiry due s
  | .attempt => Sys2Proof.Machine.execAttempt s
  | .contentionLost => Sys2Proof.Machine.execContentionLost s
  | .payloadBitLoss => Sys2Proof.Machine.execPayloadBitLoss s
  | .faultyBitAbort => Sys2Proof.Machine.execFaultyBitAbort s
  | .reportSent => Sys2Proof.Machine.execReportSent s
  | .answerSent => Sys2Proof.Machine.execAnswerSent s
  | .setMode head args => Sys2Proof.Machine.execSetMode head args s
  | .loadPattern head args => Sys2Proof.Machine.execLoadPattern head args s
  | .startTest head args => Sys2Proof.Machine.execStartTest head args s
  | .stopTest head args => Sys2Proof.Machine.execStopTest head args s
  | .clearFaults head args => Sys2Proof.Machine.execClearFaults head args s
  | .tune head item value => Sys2Proof.Machine.execTune head item value s
  | .tuneGatePin head value => Sys2Proof.Machine.execTuneGatePin head value s
  | .tuneDetectMask head value => Sys2Proof.Machine.execTuneDetectMask head value s
  | .tuneSignalMask head value => Sys2Proof.Machine.execTuneSignalMask head value s
  | .readNode head index => Sys2Proof.Machine.execReadNode head index s
  | .readPeer head index => Sys2Proof.Machine.execReadPeer head index s
  | .readPeerNext head index => Sys2Proof.Machine.execReadPeerNext head index s
  | .readFaults head index => Sys2Proof.Machine.execReadFaults head index s
  | .readCounts head index => Sys2Proof.Machine.execReadCounts head index s
  | .readFirstTrip head index => Sys2Proof.Machine.execReadFirstTrip head index s
  | .readFirstWarn head index => Sys2Proof.Machine.execReadFirstWarn head index s
  | .readPattern head index => Sys2Proof.Machine.execReadPattern head index s
  | .readVerdict head index => Sys2Proof.Machine.execReadVerdict head index s
  | .readTuning head index => Sys2Proof.Machine.execReadTuning head index s
  | .readSnapshot head index => Sys2Proof.Machine.execReadSnapshot head index s
  | .snapshot head args => Sys2Proof.Machine.execSnapshot head args s
  | .reset head args => Sys2Proof.Machine.execReset head args s
  | .unknownKind head kind args => Sys2Proof.Machine.execUnknownKind head kind args s
  | .torqueFramingError => Sys2Proof.Machine.execTorqueFramingError s
  | .lineIdle => Sys2Proof.Machine.execLineIdle s

end Sys2Proof.Machine
end

