-- ==== Sys2Proof/Machine/Step.lean ====
section
/-! DEFINITION. One step of the node: the command at the front of the queue, or what passes with no command. -/

namespace Sys2Proof.Machine

/-- One step: the front command is executed with the rest of the queue. On an empty queue the node idles, but for an
attempt in CONTENDING, which passes to SENDING (R38; log entry 7), and a REFERENCE frame being sent, which is then sent
whole (R26; log entry 14). -/
def step (s : State) : Host.Outcome State Fault Refusal :=
  match s.pending with
  | c :: rest => exec c { s with pending := rest }
  | [] => .next s.idle

/-- The node with the command that a word spells at the front of its queue; unchanged where it spells none. -/
def State.withFetchWord (s : State) (nbits w : Nat) : State :=
  match Sys2Proof.decodeTableWord nbits w with
  | some c => { s with pending := c :: s.pending }
  | none => s

end Sys2Proof.Machine
end

