-- ==== Sys2Proof/Safety.lean ====
section
/-! DEFINITION. What a sound node holds between two events, block by block, as the manual states it of the node's
state; and the words in which the statements tell what a gate end, an evaluation, a notice, a peer's report and a
directive do. -/

namespace Sys2Proof.Machine

/-! ### Configuration -/

/-- The tuning values stand in their ranges (R88, R122, R157, R179). -/
abbrev Tuning.InRange (t : Tuning) : Prop :=
  t.shareGain ≤ 4095 ∧ t.deadband ≤ 1000 ∧ (1 ≤ t.rateLimit ∧ t.rateLimit ≤ 500) ∧ t.trimLimit ≤ 2000
    ∧ (10 ≤ t.shareTolerance ∧ t.shareTolerance ≤ 3000) ∧ (-200 ≤ t.drawSetpoint ∧ t.drawSetpoint ≤ 500)
    ∧ (1 ≤ t.drawTolerance ∧ t.drawTolerance ≤ 500) ∧ (2 ≤ t.couplingWindow ∧ t.couplingWindow ≤ 32)
    ∧ (10 ≤ t.couplingThreshold ∧ t.couplingThreshold ≤ 5000)

/-- The fields of a start image stand in their ranges, with the floor rung at most the top rung, CONFIG and ID_CLASH
TRIP class and unmasked (R188, R191, R161, R162). Station 0 stands for no image. -/
abbrev Image.InRange (i : Image) : Prop :=
  i.station ≤ 40 ∧ i.group ≤ 15 ∧ (1 ≤ i.weight ∧ i.weight ≤ 255) ∧ i.position ≤ 40
    ∧ (5 ≤ i.period ∧ i.period ≤ 100) ∧ (1 ≤ i.passThreshold ∧ i.passThreshold ≤ 15)
    ∧ (1 ≤ i.badThreshold ∧ i.badThreshold ≤ 15) ∧ (1 ≤ i.edgeScale ∧ i.edgeScale ≤ 65535)
    ∧ (i.floorRung ≤ i.topRung ∧ i.topRung ≤ 7) ∧ (1 ≤ i.lockBand ∧ i.lockBand ≤ 50)
    ∧ (1 ≤ i.fadeLength ∧ i.fadeLength ≤ 64) ∧ i.tuning.InRange
    ∧ i.classMap &&& Config.fixedKinds = Config.fixedKinds ∧ i.detectMask &&& Config.fixedKinds = 0
    ∧ i.signalMask &&& Config.fixedKinds = 0

/-- The start image and the tuning values in force stand in their ranges, and outside START and HOLD there is a start
image with a node's station (R96, R187, R188). -/
abbrev State.SettingsOk (s : State) : Prop :=
  s.image.InRange ∧ s.handler.tuning.InRange
    ∧ (s.control.mode.lineOn = true → s.startUnit.image.isSome = true ∧ 1 ≤ s.own)

/-- START is a reset pin held, a record being read with no image yet, or an image being reapplied; the start memory is
selected exactly while it is read; every block is still at its reset values, but for a REFERENCE frame that a soft reset
lets complete (R28, R96, R186, R189). -/
abbrev State.StartOk (s : State) : Prop :=
  (s.control.mode = .start ↔ s.startUnit.phase ≠ .over)
    ∧ s.startUnit.port =
        (if s.startUnit.phase = .reading then { selected := true, sent := [0x03, 0x00, 0x00] }
          else { selected := false, sent := [] })
    ∧ (s.startUnit.phase = .reapplying → s.startUnit.image.isSome = true ∧ 1 ≤ s.own)
    ∧ ((s.startUnit.phase = .reading ∨ s.startUnit.phase = .pinHeld) →
        s.startUnit.image = none ∧ s.startUnit.clamped = false
          ∧ s.fault.firstTrip = .empty ∧ s.fault.multipleTrip = false)
    ∧ (s.control.mode = .start →
        s.drive = { DriveLink.atReset with sending := s.drive.sending, frame := s.drive.frame }
          ∧ s.line = Line.atReset ∧ s.control = ModeControl.atReset ∧ s.balance = Balance.atReset ∧ s.draw = Draw.atReset
          ∧ s.excitation = Excitation.atReset s.excitation.pattern ∧ s.observation = .empty
          ∧ s.tracker = Tracker.atReset s.image.floorRung ∧ s.peers = Vector.replicate 40 PeerEntry.atReset
          ∧ s.fault.status = 0 ∧ s.fault.counts = Vector.replicate 16 0 ∧ s.fault.firstWarn = .empty
          ∧ s.fault.multipleWarn = false ∧ s.handler.queue = [] ∧ s.handler.snapshot = none)

/-! ### Measurement -/

/-- The tracker's ranges and the laws of its three states (R2, R5 to R12): in LOCKED both estimates are the last
gate's; in STANDSTILL both are absent and the rung is the ceiling; without a pin the rung lies in f..t, under one it is
the pinned rung. -/
abbrev State.TrackerOk (s : State) : Prop :=
  s.tracker.rung ≤ 7 ∧ s.tracker.edges ≤ Config.edgeCountMax
    ∧ (∀ v ∈ s.tracker.latest, v ≤ Config.speedMax)
    ∧ (∀ v ∈ s.tracker.comparison, s.tracker.latest = some v)
    ∧ (s.tracker.unlocked ≤ 3 ∧ s.tracker.emptyRun ≤ 3 ∧ s.tracker.excursions ≤ 1)
    ∧ (∀ p ∈ s.tracker.requested, p ≤ 7)
    ∧ (s.tracker.state = .locked →
        s.tracker.comparison.isSome = true ∧ s.tracker.unlocked = 0 ∧ s.tracker.emptyRun = 0)
    ∧ (s.tracker.state = .acquire → s.tracker.excursions = 0)
    ∧ (s.tracker.state = .standstill →
        s.tracker.latest = none ∧ s.tracker.unlocked = 0 ∧ s.tracker.emptyRun = 0 ∧ s.tracker.excursions = 0
          ∧ s.tracker.rung = s.tracker.pin.getD s.image.topRung)
    ∧ (∀ p ∈ s.tracker.pin, s.tracker.rung = p)
    ∧ (s.tracker.pin = none → s.image.floorRung ≤ s.tracker.rung ∧ s.tracker.rung ≤ s.image.topRung)

/-- An open TORQUE frame holds its start character and at most four; the accumulator holds at most 255 frames and a sum
they can give; the held torque is a torque mean; the counters stay in their widths; a posted not-ready notice stands
only in TRIM or TEST, over a drive not ready (R17 to R22). -/
abbrev State.DriveOk (s : State) : Prop :=
  s.drive.opened.length ≤ 4 ∧ (∀ c ∈ s.drive.opened.head?, c = 0xD1)
    ∧ s.drive.count ≤ Config.accumulatorMax ∧ s.drive.sum.natAbs ≤ 30000 * s.drive.count
    ∧ s.drive.held.natAbs ≤ 30000 ∧ s.drive.staleRun ≤ Config.runMax ∧ s.drive.discards ≤ Config.counter16Max
    ∧ (s.drive.posted = true → s.control.mode.hasAuthority = true ∧ s.drive.ready = false)

/-! ### Authority -/

/-- The TRIM phase and the authority count go together, and outside TRIM a, u and y are 0; the applied trim is the
scaled integrator, and u stays within the trim limit; the last reference word within ±2000 (R25, R81, R93, R105). -/
abbrev State.AuthorityOk (s : State) : Prop :=
  (s.control.mode = .trim .fadeIn →
      s.control.authority < s.image.fadeLength ∧ (s.control.authority = 0 → s.balance.integrator = 0))
    ∧ (s.control.mode = .trim .full → s.control.authority = s.image.fadeLength)
    ∧ (s.control.mode = .trim .fadeOut → 1 ≤ s.control.authority ∧ s.control.authority ≤ s.image.fadeLength)
    ∧ (s.control.mode.isTrim = false →
        s.control.authority = 0 ∧ s.control.trim = 0 ∧ s.balance.integrator = 0)
    ∧ s.balance.integrator.natAbs ≤ s.handler.tuning.trimLimit
    ∧ s.control.trim = truncDiv (s.balance.integrator * s.control.authority) s.image.fadeLength
    ∧ s.drive.lastWord.natAbs ≤ 2000

/-- A pattern's fields stand in their ranges (R126). -/
abbrev Pattern.InRange (p : Pattern) : Prop :=
  (1 ≤ p.levels.length ∧ p.levels.length ≤ 32) ∧ (1 ≤ p.hold ∧ p.hold ≤ 255)
    ∧ (1 ≤ p.amplitude ∧ p.amplitude ≤ 500) ∧ (1 ≤ p.tolerance ∧ p.tolerance ≤ 1000)

/-- The test state is RUNNING exactly in TEST; a running test stands at a step and position of its pattern and its
count is at most the evaluations run; outside TEST the offset and what was sent are 0; no observation is open in TEST
(R126, R129, R133, R134, R147). -/
abbrev State.TestOk (s : State) : Prop :=
  (s.excitation.running = true ↔ s.control.mode = .test)
    ∧ (∀ p ∈ s.excitation.pattern, p.InRange)
    ∧ (s.control.mode = .test → s.excitation.pattern.isSome = true ∧ s.observation = .empty)
    ∧ (∀ p ∈ s.excitation.pattern, s.control.mode = .test →
        s.excitation.stepIndex < p.levels.length ∧ s.excitation.position < p.hold
          ∧ s.excitation.count ≤ s.excitation.stepIndex * p.hold + s.excitation.position)
    ∧ s.excitation.offset.natAbs ≤ 500 ∧ s.excitation.sentStep ≤ 31 ∧ s.excitation.count ≤ 8160
    ∧ (s.control.mode ≠ .test →
        s.excitation.offset = 0 ∧ s.excitation.sentStep = 0 ∧ s.excitation.sentLevel = .zero)

/-! ### The line and the peers -/

/-- The transmitter and the receiver agree with the attempt, the report slot and the mode: stopped in START and HOLD,
DEFERRING between attempts exactly while there is something to send; the slot is empty in LISTEN, entered by a frame
that an attempt in progress outlives; the bad-frame run has
reached K exactly while OUT_OF_STEP (R29, R31, R33, R34, R37, R40, R41). -/
abbrev State.LineOk (s : State) : Prop :=
  (s.control.mode.lineOn = true ↔ s.line.rx ≠ .stopped)
    ∧ (s.line.attempt = none →
        s.line.tx = if s.control.mode.lineOn = true ∧ s.somethingToSend = true then .deferring else .idle)
    ∧ (∀ a ∈ s.line.attempt,
        s.control.mode.lineOn = true ∧ (s.line.rx = .receiving ∨ s.line.rx = .waitIdle)
          ∧ (s.line.tx = .contending ∨ s.line.tx = .sending) ∧ (a.source = .answer → s.handler.queue ≠ [])
          ∧ (a.source = .report →
              s.line.reportDue = true ∨ (s.control.mode = .listen ∧ s.line.rx = .waitIdle)))
    ∧ (s.control.mode.reports = false → s.line.reportDue = false ∧ s.line.refill = false)
    ∧ s.line.badFrames ≤ Config.counter16Max
    ∧ (s.line.step = .inStep → s.line.badRun < s.image.badThreshold)
    ∧ (s.line.step = .outOfStep → s.line.badRun = s.image.badThreshold)

/-- An entry of the peer table: ABSENT with every field at reset, or heard from, with its report stored and in range;
QUALIFIED exactly with a pass count of Q; the stale flag set and the watchdog disarmed exactly while lapsed
(R47 to R50, R58). -/
abbrev PeerEntry.Ok (e : PeerEntry) (q : Nat) : Prop :=
  (e.state = .absent → e = PeerEntry.atReset)
    ∧ (e.state ≠ .absent → e.stored.isSome = true ∧ (e.state = .qualified ↔ e.passCount = q)
        ∧ (e.stale = true ↔ e.passCount = 0) ∧ (e.deadline = none ↔ e.passCount = 0))
    ∧ e.passCount ≤ q ∧ (∀ r ∈ e.stored, r.inRange = true)
    ∧ (e.disqualification ≤ 255 ∧ e.seen ≤ 255 ∧ e.contrary ≤ 255 ∧ e.quiet ≤ 255 ∧ e.missed ≤ 255)

/-- The remaining count of the observation in the slot; 0 while it is EMPTY (R147). -/
def Slot.left : Slot → Nat
  | .empty => 0
  | .pending _ _ n => n
  | .counting _ _ _ n _ _ => n

/-- Every entry is sound and the own station's is never used; an open observation is of a key of the table whose test
is being followed, within a window (R47, R147, R155). -/
abbrev State.PeersOk (s : State) : Prop :=
  (∀ k ∈ stations, (s.peer k).Ok s.image.passThreshold)
    ∧ (s.control.mode.lineOn = true → s.peer s.own = PeerEntry.atReset)
    ∧ (∀ k ∈ s.observation.peer?, k ∈ stations ∧ (s.peer k).marker = true ∧ s.observation.left ≤ 32)

/-! ### Faults and answers -/

/-- CONFIG and ID_CLASH are TRIP class and never masked, and stand set exactly in HOLD; no detect-masked kind is set; a
set kind has been counted; the lines follow status, classes and signal mask (R97, R161 to R163, R169, R171). -/
abbrev State.FaultsOk (s : State) : Prop :=
  s.fault.classMap &&& Config.fixedKinds = Config.fixedKinds ∧ s.fault.detectMask &&& Config.fixedKinds = 0
    ∧ s.fault.signalMask &&& Config.fixedKinds = 0 ∧ s.fault.status &&& s.fault.detectMask = 0
    ∧ (s.control.mode = .hold ↔ s.fault.status &&& Config.fixedKinds ≠ 0)
    ∧ (∀ n ∈ List.range 16, s.fault.counts.toList.getD n 0 ≤ Config.runMax
        ∧ (s.fault.status.getLsbD n = true → 1 ≤ s.fault.counts.toList.getD n 0))
    ∧ s.fault.tripLine = decide (s.fault.status &&& s.fault.classMap &&& ~~~s.fault.signalMask ≠ 0)
    ∧ s.fault.warnLine = decide (s.fault.status &&& ~~~s.fault.classMap &&& ~~~s.fault.signalMask ≠ 0)

/-- The answer queue holds at most four answers, each with a payload that an ANSWER frame may carry; the dropped
counter stays in its width (R30, R177, R193). -/
abbrev State.QueueOk (s : State) : Prop :=
  s.handler.queue.length ≤ Config.queueDepth ∧ (∀ a ∈ s.handler.queue, a.payload.length ≤ 40)
    ∧ s.handler.dropped ≤ Config.counter16Max

/-- A sound node. -/
structure State.Sound (s : State) : Prop where
  settings  : s.SettingsOk
  start     : s.StartOk
  tracker   : s.TrackerOk
  drive     : s.DriveOk
  authority : s.AuthorityOk
  test      : s.TestOk
  line      : s.LineOk
  peers     : s.PeersOk
  faults    : s.FaultsOk
  queue     : s.QueueOk

/-! ### Notices, as the statements tell them -/

/-- A kind counted and set, with the lines following (R163, R169). -/
def FaultUnit.raised (f : FaultUnit) (k : Kind) : FaultUnit :=
  let status := f.status ||| BitVec.ofNat 16 (2 ^ (k.number - 1))
  { f with
    status := status
    counts := Vector.ofFn fun i : Fin 16 =>
      if i.val + 1 = k.number then min 255 (f.counts[i] + 1) else f.counts[i]
    tripLine := decide (status &&& f.classMap &&& ~~~f.signalMask ≠ 0)
    warnLine := decide (status &&& ~~~f.classMap &&& ~~~f.signalMask ≠ 0) }

/-- A WARN-class notice taken: a locked first-warn record takes the flag, any other is filled (R163, R167). -/
def FaultUnit.warned (f : FaultUnit) (k : Kind) (source : Nat) (evaluation : BitVec 32) : FaultUnit :=
  match f.firstWarn with
  | .locked _ => { f.raised k with multipleWarn := true }
  | _ =>
    { f.raised k with
      firstWarn := .locked { kind := k, source := source, evaluation := evaluation }, multipleWarn := false }

/-- A TRIP-class notice taken: a locked first-trip record takes the flag, any other is filled (R163, R165, R166). -/
def FaultUnit.tripped (f : FaultUnit) (c : TripContents) : FaultUnit :=
  match f.firstTrip with
  | .locked _ => { f.raised c.kind with multipleTrip := true }
  | _ => { f.raised c.kind with firstTrip := .locked c, multipleTrip := false }

/-- A kind that is WARN class and recorded (R161, R162). -/
abbrev FaultUnit.warns (f : FaultUnit) (k : Kind) : Prop :=
  f.classMap.getLsbD (k.number - 1) = false ∧ f.detectMask.getLsbD (k.number - 1) = false

/-- A kind that is TRIP class and recorded (R161, R162). -/
abbrev FaultUnit.trips (f : FaultUnit) (k : Kind) : Prop :=
  f.classMap.getLsbD (k.number - 1) = true ∧ f.detectMask.getLsbD (k.number - 1) = false

/-- A kind that is detect-masked: its notices are dropped (R162, R163). -/
abbrev FaultUnit.masked (f : FaultUnit) (k : Kind) : Prop := f.detectMask.getLsbD (k.number - 1) = true

/-- No TRIP-class notice can come of an evaluation: the kinds an evaluation may raise besides DRIVE_LINK are WARN class,
and the stale run does not become 3 at it. -/
abbrev State.Calm (s : State) : Prop :=
  s.fault.classMap &&& 0x3780 = 0 ∧ (s.drive.count ≠ 0 ∨ s.drive.staleRun ≠ 2)

/-! ### Gate ends, as the statements tell them -/

/-- The tracker that the rules of the three states leave at a gate end, given the pin that comes into force and the rung
of the next gate: the pinned rung; after a release in ACQUIRE or LOCKED the nearest in f..t; else the rung those rules
chose. In ACQUIRE a change of rung drops the comparison estimate and both counts (R11, R12). -/
def Tracker.placed (t before : Tracker) (floor top : Nat) : Tracker :=
  let rung := match before.requested with
    | some p => p
    | none => if before.pin.isSome = true ∧ t.state ≠ .standstill then max floor (min top t.rung) else t.rung
  let moved := rung ≠ before.rung ∧ t.state = .acquire
  { t with
    edges := 0
    pin := before.requested
    rung := rung
    comparison := if moved then none else t.comparison
    unlocked := if moved then 0 else t.unlocked
    emptyRun := if moved then 0 else t.emptyRun }

/-! ### Evaluations, as the statements tell them -/

/-- The command whose effect a late event has. -/
def LateEvent.command : LateEvent → Instr
  | .gateEnd => .gateEnd
  | .torqueFrame chars => .torqueFrame chars [] [] []
  | .torqueGapCutOff => .torqueGapCutOff
  | .torqueFramingError => .torqueFramingError
  | .goodFrame moment chars => .goodFrame moment chars
  | .badFrame => .badFrame
  | .watchdogExpiry due => .watchdogExpiry due
  | .payloadBitLoss => .payloadBitLoss
  | .faultyBitAbort => .faultyBitAbort
  | .attempt => .attempt
  | .answerSent => .answerSent

/-- The command whose effect an event of the peer table has. -/
def TableEvent.command : TableEvent → Instr
  | .report moment station payload => .reportArrival moment station payload
  | .badFrame => .badFrame
  | .faultyBitAbort => .faultyBitAbort
  | .watchdogExpiry due => .watchdogExpiry due

/-- The node after these commands, one after the other. -/
def State.through (s : State) : List Instr → State
  | [] => s
  | c :: rest => match exec c s with
    | .next t => t.through rest
    | _ => s.through rest

/-- The node after these events between an evaluation's work and its frame: each does what its own command does, but
that no attempt begins while a test's new offset is in no frame yet (R136, log entry 27). -/
def State.throughLate (s : State) : List LateEvent → State
  | [] => s
  | e :: rest =>
    State.throughLate
      (if e = .attempt ∧ s.excitation.running = true ∧ s.excitation.offset ≠ s.drive.lastWord then s
       else s.through [LateEvent.command e]) rest

/-! ### Coupling, as the statements tell it -/

/-- The entry with its observation judged: which tally it goes to (R151). -/
def PeerEntry.judgedOn (e : PeerEntry) (sign : Sign) (change : Int) (threshold : Nat) : PeerEntry :=
  let along : Int := match sign with
    | .up => -change
    | .down => change
  if threshold ≤ along then { e with seen := min 255 (e.seen + 1) }
  else if along ≤ -threshold then { e with contrary := min 255 (e.contrary + 1) }
  else { e with quiet := min 255 (e.quiet + 1) }

/-- The entry with one more observation or transition counted missed (R148). -/
def PeerEntry.missedOnce (e : PeerEntry) : PeerEntry := { e with missed := min 255 (e.missed + 1) }

/-- The entry given its verdict from its tallies, its marker cleared (R152, R153). -/
def PeerEntry.concluded (e : PeerEntry) : PeerEntry :=
  let total := e.seen + e.contrary + e.quiet
  { e with
    marker := false
    verdict := some
      (if total < 2 then .undetermined else if total < 2 * e.seen then .coupled
        else if total < 2 * e.quiet then .uncoupled else if total < 2 * e.contrary then .inverted
        else .undetermined) }

/-- The verdict of this entry contradicts the groups: INVERTED, UNCOUPLED within the own group, or COUPLED outside it,
the own group being other than 0 (R154). -/
abbrev State.Disagrees (s : State) (e : PeerEntry) : Prop :=
  let same := e.stored.any fun r => decide (r.shape.group = s.image.group ∧ s.image.group ≠ 0)
  e.verdict = some .inverted ∨ (e.verdict = some .uncoupled ∧ same = true)
    ∨ (e.verdict = some .coupled ∧ same = false)

/-- The entry with the following of its peer's test abandoned (R155). -/
def PeerEntry.unfollowed (e : PeerEntry) : PeerEntry :=
  if e.marker then { e with marker := false, verdict := some .undetermined } else e

/-! ### Reports, as the statements tell them -/

/-- A report of this sequence and shape starts a run: the entry is ABSENT or lapsed (R51). -/
def PeerEntry.starts (e : PeerEntry) : Bool :=
  decide (e.state = .absent ∨ (e.state = .probation ∧ e.passCount = 0))

/-- A report breaks the run: it starts none, and its sequence is not the next one or its shape is another (R51). -/
def PeerEntry.broken (e : PeerEntry) (r : Report) : Bool :=
  !e.starts && e.stored.all fun old => decide (r.sequence ≠ old.sequence + 1 ∨ r.shape ≠ old.shape)

/-- The entry after a report taken at this moment: pass count 1 at a start or a break and one more, up to Q, at a
continuation; QUALIFIED exactly at Q; a break counted; stored, fresh and its watchdog armed (R52 to R55). -/
def PeerEntry.heardAt (e : PeerEntry) (q now : Nat) (r : Report) : PeerEntry :=
  let pass := if e.starts = true ∨ e.broken r = true then 1 else min q (e.passCount + 1)
  { e with
    state := if pass = q then .qualified else .probation
    passCount := pass
    disqualification := if e.broken r then min 255 (e.disqualification + 1) else e.disqualification
    stored := some r
    stale := false
    deadline := some (now + 2000 * r.shape.period) }

/-! ### Groups and sections, as the statements tell them -/

/-- The stored reports of the QUALIFIED peers (R48, R66). -/
def State.qualifiedReports (s : State) : List Report :=
  stations.filterMap fun k =>
    if k ≠ s.own ∧ (s.peer k).state = .qualified then (s.peer k).stored else none

/-- The reports of the peers in the own group: same group, speed valid, mode not TEST; none while the own group is 0
(R73). -/
def State.groupPeers (s : State) : List Report :=
  if s.image.group = 0 then []
  else s.qualifiedReports.filter fun r =>
    decide (r.shape.group = s.image.group) && r.contents.speedValid && decide (r.contents.mode ≠ .test)

/-- The reports of the peers of the section upstream: position one less, speed valid; none at positions 0 and 1
(R117). -/
def State.upstreamPeers (s : State) : List Report :=
  if s.image.position < 2 then []
  else s.qualifiedReports.filter fun r =>
    decide (r.shape.position + 1 = s.image.position) && r.contents.speedValid

/-! ### Taking a frame and a directive -/

/-- The node with a good frame of this moment counted and nothing else done yet (R34, R35). -/
def State.heard (s : State) (moment : Nat) : State :=
  { s with
    clock := max s.clock moment
    line := { s.line with goodFrames := s.line.goodFrames + 1, badRun := 0, step := .inStep, rx := .waitIdle } }

/-- The node with a good directive's frame counted and the directive counted as taken (R35, R175). -/
def State.tookDirective (s : State) (h : DirectiveHead) : State :=
  let t := s.heard h.moment
  { t with handler := { t.handler with taken := t.handler.taken + 1 } }

/-- The node with one more answer at the tail of its queue, waiting for the line, or for an own attempt in progress to
end (R37, R40, R176, R177). -/
def State.answered (s : State) (h : DirectiveHead) (outcome : AnswerOutcome) (data : List Byte) (resets : Bool) :
    State :=
  { s with
    line := { s.line with tx := if s.line.attempt = none then .deferring else s.line.tx }
    handler :=
      { s.handler with
        queue := s.handler.queue ++
          [{ terminal := contention 0 h.terminal, tag := h.tag, outcome := outcome, data := data, resets := resets }] } }

/-- The receiver can take a frame: the line works, and the receiver has found it idle or is already in a frame; an own
attempt may be in progress (R29, R31, R40). -/
abbrev State.Open (s : State) : Prop :=
  s.control.mode.lineOn = true ∧ (s.line.rx = .ready ∨ s.line.rx = .receiving)

/-- No attempt in progress sends this frame (R31). -/
abbrev State.NotOwnFrame (s : State) (c : Byte) (payload : List Byte) : Prop :=
  ∀ a ∈ s.line.attempt, a.frame ≠ frameChars c payload

/-- The node takes a directive of this head and `n` argument characters: its receiver is open, the sender is a terminal,
the target is the own station, the queue has room, and the payload fits a DIRECTIVE frame (R30, R175, R177). -/
abbrev State.Takes (s : State) (h : DirectiveHead) (n : Nat) : Prop :=
  s.Open ∧ 60 ≤ h.terminal.toNat ∧ h.target.toNat = s.own ∧ s.handler.queue.length < 4 ∧ n ≤ 15

/-- The start record that gives an image with the class map and masks it names, and its check word (R187, R191). -/
def startRecordOf (i : Image) : List Byte :=
  let words : List Nat :=
    [i.station, i.group, i.weight, i.position, i.period, i.passThreshold, i.badThreshold, i.edgeScale,
      i.floorRung + 256 * i.topRung, i.lockBand, i.tuning.shareGain, i.tuning.deadband, i.tuning.rateLimit,
      i.tuning.trimLimit, i.fadeLength, (BitVec.ofInt 16 i.tuning.drawSetpoint).toNat, i.tuning.drawTolerance,
      i.tuning.shareTolerance, i.tuning.couplingWindow, i.tuning.couplingThreshold, i.classMap.toNat,
      i.detectMask.toNat, i.signalMask.toNat]
  (words ++ [(65536 - words.sum % 65536) % 65536]).flatMap fun w => [byte w, byte (w / 256)]

/-- A change of mode to one that neither is LISTEN nor HOLD, with what each block does at it (R21, R84 to R86, R94). -/
def State.inMode (s : State) (m : Mode) : State :=
  { s with
    control := { s.control with mode := m }
    balance := { s.balance with saturationRun := 0, shareRun := 0, groupShort := false }
    drive := { s.drive with posted := false } }

end Sys2Proof.Machine
end

