-- ==== Sys2Proof/WellFormed.lean ====
section
/-! DEFINITION. When a command is one that the outside world can send: its operands lie in the ranges the manual
gives the event. exec is total all the same (log entry 4, log entry 13). -/

namespace Sys2Proof

open Sys2Proof.Machine

/-- A DIRECTIVE frame from a terminal station (R30), with at most the 15 argument characters of an 18-character
payload. -/
def directiveOk (h : DirectiveHead) (args : List Byte) : Bool :=
  decide (60 ≤ h.terminal.toNat) && decide (args.length ≤ 15)

/-- A TUNE or READ frame, with its item code before these characters. -/
def itemOk (h : DirectiveHead) (rest : List Byte) : Bool :=
  decide (60 ≤ h.terminal.toNat) && decide (rest.length ≤ 14)

/-- A run of characters of one TORQUE frame (R17). -/
def torqueOk (chars : List Byte) : Bool := decide (1 ≤ chars.length) && decide (chars.length ≤ 5)

/-- A station of a peer (R47). -/
def stationOk (k : Nat) : Bool := decide (1 ≤ k) && decide (k ≤ Config.nodeMax)

/-- An event between an evaluation's work and its frame, with the operands its own command may carry. -/
def lateOk : LateEvent → Bool
  | .torqueFrame chars => torqueOk chars
  | .goodFrame _ chars => (judgeFrame chars).isSome
  | .watchdogExpiry due => stationOk due.station
  | .gateEnd => true
  | .torqueGapCutOff => true
  | .torqueFramingError => true
  | .badFrame => true
  | .payloadBitLoss => true
  | .faultyBitAbort => true
  | .attempt => true
  | .answerSent => true

/-- An event of the peer table within an evaluation, with the operands its own command may carry. -/
def tableEventOk : TableEvent → Bool
  | .report _ station payload => stationOk station.toNat && decide (payload.length = 16)
  | .watchdogExpiry due => stationOk due.station
  | .badFrame => true
  | .faultyBitAbort => true

/-- An event within an evaluation: only the balance engine and the draw verifier walk the table's entries (R66). -/
def interruptionOk (i : Interruption) : Bool :=
  tableEventOk i.event && i.read.all stationOk
    && (i.read.isEmpty || decide (i.before = .balanceEngine) || decide (i.before = .drawVerifier))

/-- A command that the outside world can send. -/
def WellFormed : Instr → Bool
  | .startCheck record => decide (record.length = Config.recordLength)
  | .evaluation course => orderOk course.order && course.during.all interruptionOk && course.late.all lateOk
  | .reportArrival _ station payload =>
    stationOk station.toNat && decide (payload.length = 16)
  | .goodFrame _ chars => (judgeFrame chars).isSome
  | .watchdogExpiry due => stationOk due.station
  | .setMode h args => directiveOk h args
  | .loadPattern h args => directiveOk h args
  | .startTest h args => directiveOk h args
  | .stopTest h args => directiveOk h args
  | .clearFaults h args => directiveOk h args
  | .tune h item value => itemOk h value && decide (item ≠ 10) && decide (item ≠ 11) && decide (item ≠ 12)
  | .tuneGatePin h value => itemOk h value
  | .tuneDetectMask h value => itemOk h value
  | .tuneSignalMask h value => itemOk h value
  | .readNode h index => itemOk h index
  | .readPeer h index => itemOk h index
  | .readPeerNext h index => itemOk h index
  | .readFaults h index => itemOk h index
  | .readCounts h index => itemOk h index
  | .readFirstTrip h index => itemOk h index
  | .readFirstWarn h index => itemOk h index
  | .readPattern h index => itemOk h index
  | .readVerdict h index => itemOk h index
  | .readTuning h index => itemOk h index
  | .readSnapshot h index => itemOk h index
  | .snapshot h args => directiveOk h args
  | .reset h args => directiveOk h args
  | .unknownKind h kind args => directiveOk h args && (decide (kind = 0) || decide (10 ≤ kind.toNat))
  | .hardwareReset => true
  | .resetPinAsserted => true
  | .softStartEnd => true
  | .encoderEdge => true
  | .gateEnd => true
  | .torqueFrame start word flags sum => torqueOk (start ++ word ++ flags ++ sum)
  | .torqueGapCutOff => true
  | .badFrame => true
  | .attempt => true
  | .contentionLost => true
  | .payloadBitLoss => true
  | .faultyBitAbort => true
  | .reportSent => true
  | .answerSent => true
  | .torqueFramingError => true
  | .lineIdle => true

end Sys2Proof
end

