-- ==== Sys2Proof/Certificates/Slice0/Obligations.lean ====
section
/-! DEFINITION. The statements for the provers: what the commands of the node do by the numbered rules of the spec, and
the laws that every step keeps. `warns` and `trips` name the class of a kind: the notices a statement speaks of are
recorded, and the class says which record they go to. -/

open Sys2Proof Sys2Proof.Machine

/-! ### The queue of commands -/

/-- A step takes the command at the front of the queue and runs it with the queue's rest. On an empty queue an attempt
in CONTENDING passes to SENDING and the REFERENCE frame being sent has been sent whole (R26, R38), and otherwise the
node idles: that these take place there is the model's choice (log entries 7 and 14). -/
def Obligations.StepRunsFrontCommand : Prop :=
  (∀ (c : Instr) (rest : List Instr) (s : State),
     step { s with pending := c :: rest } = exec c { s with pending := rest })
    ∧ (∀ s : State, s.pending = [] →
         step s = .next
           { s with
             line := { s.line with tx := if s.line.tx = .contending then .sending else s.line.tx }
             drive := match s.drive.sending with
               | some f => { s.drive with sending := none, frame := some f }
               | none => s.drive })

/-- Every command answers a next state, leaves the queue of waiting commands alone, and does not depend on it. -/
def Obligations.CommandsIgnoreQueue : Prop :=
  ∀ (c : Instr) (s : State) (q : List Instr),
    ∃ t, exec c s = .next t ∧ t.pending = s.pending
      ∧ exec c { s with pending := q } = .next { t with pending := q }

/-! ### Resets and START -/

/-- A hardware reset, or the reset pin held, leaves every block at its reset values in START (R16, R28, R46, R70, R92,
R114, R125, R144, R159, R174, R185): a half-received TORQUE frame, a REFERENCE frame being sent and a read of the start
memory are abandoned, and the memory is selected anew exactly where the read begins (R28, R186). The model's own choice
in it: the model clock, the default class map and masks, the tuning values and the start-clamp flag before a record has
been read, and the record of the reference output (log entries 3, 8, 9, 14 and 28). -/
def Obligations.HardwareResetState : Prop :=
  ∀ s : State,
    let reset (phase : StartPhase) : State :=
      { pending := s.pending
        clock := s.clock
        startUnit :=
          { phase := phase
            port := if phase = .reading then { selected := true, sent := [0x03, 0x00, 0x00] }
              else { selected := false, sent := [] }
            image := none, clamped := false }
        tracker :=
          { state := .acquire, rung := 0, edges := 0, latest := none, comparison := none, unlocked := 0, emptyRun := 0,
            excursions := 0, requested := none, pin := none }
        drive :=
          { opened := [], sum := 0, count := 0, held := 0, staleRun := 1, ready := false, posted := false,
            lastWord := 0, sending := none, frame := none, discards := 0, framesTaken := 0 }
        line :=
          { rx := .stopped, step := .inStep, badRun := 0, tx := .idle, attempt := none, reportDue := false,
            refill := false, sequence := 0, goodFrames := 0, badFrames := 0, reportsSent := 0 }
        peers := Vector.ofFn fun _ =>
          { state := .absent, passCount := 0, disqualification := 0, stored := none, stale := false, deadline := none,
            marker := false, seen := 0, contrary := 0, quiet := 0, missed := 0, verdict := none }
        balance := { integrator := 0, saturationRun := 0, shareRun := 0, groupShort := false, result := none }
        control := { mode := .start, authority := 0, trim := 0, evaluations := 0 }
        draw := { run := 0, result := none }
        excitation :=
          { pattern := none, running := false, stepIndex := 0, position := 0, baseline := 0, count := 0,
            limitPosted := false, offset := 0, sentStep := 0, sentLevel := .zero, verdict := none }
        observation := .empty
        fault :=
          { status := 0, counts := Vector.ofFn fun _ => 0, classMap := 0x000F, detectMask := 0, signalMask := 0x8000,
            firstTrip := .empty, multipleTrip := false, firstWarn := .empty, multipleWarn := false, tripLine := false,
            warnLine := false }
        handler :=
          { queue := [], tuning := Image.fallback.tuning, taken := 0, dropped := 0, snapshot := none } }
    exec .hardwareReset s = .next (reset .reading) ∧ exec .resetPinAsserted s = .next (reset .pinHeld)

/-- The soft reset takes place when a RESET's answer has been sent whole: START, with every block at its soft-reset
values; the first-trip record with its flag, the pattern, the start image and the start-clamp flag survive, a REFERENCE
frame being sent goes on and a half-received TORQUE frame is lost (R28, R44, R184, R189, and each chapter's Reset
section). The model's own choice in it: ANSWER_SENT is taken whatever the transmitter's state, in CONTENDING too (log
entry 7), and the model clock and the record of the reference output (log entries 3 and 14). -/
def Obligations.SoftResetState : Prop :=
  ∀ (s : State) (i : Image) (f : List Byte) (a : Answer) (rest : List Answer),
    s.control.mode.lineOn = true → s.startUnit.image = some i →
    s.line.attempt = some { source := .answer, frame := f } → s.handler.queue = a :: rest → a.resets = true →
      exec .answerSent s = .next
        { pending := s.pending
          clock := s.clock
          startUnit :=
            { phase := .reapplying, port := s.startUnit.port, image := some i, clamped := s.startUnit.clamped }
          tracker :=
            { state := .acquire, rung := i.floorRung, edges := 0, latest := none, comparison := none, unlocked := 0,
              emptyRun := 0, excursions := 0, requested := none, pin := none }
          drive :=
            { opened := [], sum := 0, count := 0, held := 0, staleRun := 1, ready := false, posted := false,
              lastWord := 0, sending := s.drive.sending, frame := s.drive.frame, discards := 0, framesTaken := 0 }
          line :=
            { rx := .stopped, step := .inStep, badRun := 0, tx := .idle, attempt := none, reportDue := false,
              refill := false, sequence := 0, goodFrames := 0, badFrames := 0, reportsSent := 0 }
          peers := Vector.ofFn fun _ =>
            { state := .absent, passCount := 0, disqualification := 0, stored := none, stale := false,
              deadline := none, marker := false, seen := 0, contrary := 0, quiet := 0, missed := 0, verdict := none }
          balance := { integrator := 0, saturationRun := 0, shareRun := 0, groupShort := false, result := none }
          control := { mode := .start, authority := 0, trim := 0, evaluations := 0 }
          draw := { run := 0, result := none }
          excitation :=
            { pattern := s.excitation.pattern, running := false, stepIndex := 0, position := 0, baseline := 0,
              count := 0, limitPosted := false, offset := 0, sentStep := 0, sentLevel := .zero, verdict := none }
          observation := .empty
          fault :=
            { status := 0, counts := Vector.ofFn fun _ => 0, classMap := i.classMap, detectMask := i.detectMask,
              signalMask := i.signalMask, firstTrip := s.fault.firstTrip, multipleTrip := s.fault.multipleTrip,
              firstWarn := .empty, multipleWarn := false, tripLine := false, warnLine := false }
          handler := { queue := [], tuning := i.tuning, taken := 0, dropped := 0, snapshot := none } }

/-- A good record ends START in LISTEN with the start image in force: the receiver in WAIT_IDLE, the first gate at the
floor rung, the image's tuning, class map and masks; a soft reset's START ends in LISTEN likewise, with the image held
(R16, R31, R96, R187 to R189), the start memory released (R186). Every other field keeps its reset value. -/
def Obligations.StartEndsInListen : Prop :=
  ∀ (s : State), s.StartOk → s.control.mode = .start →
    let released : MemoryPort := { selected := false, sent := [] }
    let listening (i : Image) : State :=
      { s with
        control := { s.control with mode := .listen }
        line := { s.line with rx := .waitIdle }
        tracker := Tracker.atReset i.floorRung }
    (∀ record, s.startUnit.phase = .reading → recordGood record = true →
        exec (.startCheck record) s = .next
          { listening (recordImage record) with
            startUnit :=
              { phase := .over, port := released, image := some (recordImage record), clamped := recordClamped record }
            fault :=
              { s.fault with
                classMap := (recordImage record).classMap, detectMask := (recordImage record).detectMask,
                signalMask := (recordImage record).signalMask, tripLine := false, warnLine := false }
            handler := { s.handler with tuning := (recordImage record).tuning } })
      ∧ (s.startUnit.phase = .reapplying →
          exec .softStartEnd s = .next
            { listening s.image with
              startUnit := { s.startUnit with phase := .over, port := released } })

/-- A record that fails its check, or whose station is no node's, takes the node from START to HOLD: no image, the
default settings of R161, CONFIG set and counted once, the first-trip record filled with the values of R165's last
sentence, TRIP asserted, a at 0, the start-clamp flag clear, the start memory released, the tracker working on from rung
0 (R97, R161, R165, R186, R187). -/
def Obligations.BadRecordEndsInHold : Prop :=
  ∀ (s : State) (record : List Byte), s.StartOk → s.control.mode = .start → s.startUnit.phase = .reading →
    (recordSum record ≠ 0 ∨ recordWord record 0 = 0 ∨ 40 < recordWord record 0) →
      exec (.startCheck record) s = .next
        { s with
          startUnit :=
            { phase := .over, port := { selected := false, sent := [] }, image := none, clamped := false }
          control := { mode := .hold, authority := 0, trim := 0, evaluations := 0 }
          tracker := Tracker.atReset 0
          fault :=
            { status := 0x0001
              counts := Vector.ofFn fun n : Fin 16 => if n.val = 0 then 1 else 0
              classMap := 0x000F
              detectMask := 0
              signalMask := 0x8000
              firstTrip := .locked
                { kind := .config, source := 0, evaluation := 0, mode := .start, speed := 0, speedValid := false,
                  torque := 0, integrator := 0, authority := 0, testStep := none, cause := none }
              multipleTrip := false
              firstWarn := .empty
              multipleWarn := false
              tripLine := true
              warnLine := false } }

/-- The start record's layout and ranges: a record that carries an image's fields checks good, gives that image whole
and sets no start-clamp flag; whatever a good record holds, its image stands in the ranges of R191 with a node's
station, its floor rung at most its top rung, and CONFIG and ID_CLASH TRIP class and unmasked; and each field of a good
record that lies outside its range gives the nearer end, a floor rung above the top rung gives the top rung, the class
map and masks are taken unclamped but for CONFIG and ID_CLASH, and the start-clamp flag is set exactly where a field was
clamped (R161, R162, R187, R188, R191). The model's own reading in it: a floor rung set to the top rung counts as
clamped (log entry 25). -/
def Obligations.StartRecordRoundTrip : Prop :=
  (∀ i : Image, i.InRange → 1 ≤ i.station →
     (startRecordOf i).length = 48 ∧ recordGood (startRecordOf i) = true ∧ recordImage (startRecordOf i) = i
       ∧ recordClamped (startRecordOf i) = false)
    ∧ (∀ record : List Byte, recordGood record = true →
         (recordImage record).InRange ∧ 1 ≤ (recordImage record).station)
    ∧ (∀ record : List Byte, record.length = 48 → recordGood record = true →
         let char (i : Nat) : Nat := (record.getD i 0).toNat
         let word (i : Nat) : Nat := char (2 * i) + 256 * char (2 * i + 1)
         let setpoint : Int := if word 15 < 32768 then word 15 else word 15 - 65536
         let top := min 7 (char 17)
         let map (i : Nat) : KindSet := BitVec.ofNat 16 (word i)
         recordImage record =
             { station := word 0, group := min 15 (word 1), weight := max 1 (min 255 (word 2))
               position := min 40 (word 3), period := max 5 (min 100 (word 4))
               passThreshold := max 1 (min 15 (word 5)), badThreshold := max 1 (min 15 (word 6))
               edgeScale := max 1 (word 7), floorRung := min top (char 16), topRung := top
               lockBand := max 1 (min 50 (word 9)), fadeLength := max 1 (min 64 (word 14))
               tuning :=
                 { shareGain := min 4095 (word 10), deadband := min 1000 (word 11)
                   rateLimit := max 1 (min 500 (word 12)), trimLimit := min 2000 (word 13)
                   shareTolerance := max 10 (min 3000 (word 17)), drawSetpoint := max (-200) (min 500 setpoint)
                   drawTolerance := max 1 (min 500 (word 16)), couplingWindow := max 2 (min 32 (word 18))
                   couplingThreshold := max 10 (min 5000 (word 19)) }
               classMap := map 20 ||| 0x0003, detectMask := map 21 &&& 0xFFFC, signalMask := map 22 &&& 0xFFFC }
           ∧ (recordClamped record = true ↔
               15 < word 1 ∨ word 2 < 1 ∨ 255 < word 2 ∨ 40 < word 3 ∨ word 4 < 5 ∨ 100 < word 4 ∨ word 5 < 1
                 ∨ 15 < word 5 ∨ word 6 < 1 ∨ 15 < word 6 ∨ word 7 < 1 ∨ 7 < char 17 ∨ top < char 16 ∨ word 9 < 1
                 ∨ 50 < word 9 ∨ 4095 < word 10 ∨ 1000 < word 11 ∨ word 12 < 1 ∨ 500 < word 12 ∨ 2000 < word 13
                 ∨ word 14 < 1 ∨ 64 < word 14 ∨ setpoint < -200 ∨ 500 < setpoint ∨ word 16 < 1 ∨ 500 < word 16
                 ∨ word 17 < 10 ∨ 3000 < word 17 ∨ word 18 < 2 ∨ 32 < word 18 ∨ word 19 < 10 ∨ 5000 < word 19))

/-- In START every command but the two resets and those that end START changes nothing. In HOLD every command but the
two resets leaves the mode, the line, the peer table, the observation slot, the engines' results, the excitation unit,
the handler, the start unit and the REFERENCE output as they are; of the mode controller only the evaluations counter
moves (R1, R17, R29, R57, R91, R96, R97, R116, R156). The model's own choice in it: a command that cannot occur in the
standing state changes nothing, and HOLD still closes the accumulator (log entries 4 and 18). -/
def Obligations.StartAndHoldAreLeftByResets : Prop :=
  (∀ (c : Instr) (s : State), s.control.mode = .start → c ≠ .hardwareReset → c ≠ .resetPinAsserted →
     (∀ record, c ≠ .startCheck record) → c ≠ .softStartEnd → exec c s = .next s)
    ∧ (∀ (c : Instr) (s : State), s.control.mode = .hold → c ≠ .hardwareReset → c ≠ .resetPinAsserted →
         ∃ t, exec c s = .next t ∧ t.control = { s.control with evaluations := t.control.evaluations }
           ∧ t.line = s.line ∧ t.peers = s.peers ∧ t.observation = s.observation ∧ t.balance = s.balance
           ∧ t.draw = s.draw ∧ t.excitation = s.excitation ∧ t.handler = s.handler ∧ t.startUnit = s.startUnit
           ∧ t.drive.lastWord = s.drive.lastWord ∧ t.drive.sending = s.drive.sending ∧ t.drive.frame = s.drive.frame)

/-! ### The speed tracker -/

/-- An edge adds to the count of the gate in progress, which saturates at 2²⁴ − 1; nothing else changes (R1). -/
def Obligations.EdgeIsCounted : Prop :=
  ∀ s : State, s.control.mode ≠ .start →
    exec .encoderEdge s = .next
      { s with tracker :=
          { s.tracker with edges := if s.tracker.edges < 16777215 then s.tracker.edges + 1 else 16777215 } }

/-- In ACQUIRE, a gate end of 16 edges or more locks where the estimate agrees with the comparison estimate within B;
otherwise the estimate becomes the comparison estimate and the unlocked count rises, and the fourth such gate end steps
up a rung below t where no pin comes into force, dropping the comparison estimate; then the pin and the rung of the next
gate (R3 to R5, R11, R12). Only the tracker changes. The model's own reading in it: how a change of pin meets a change
of state at one gate end (log entry 10). -/
def Obligations.AcquireFullGate : Prop :=
  ∀ s : State, s.control.mode ≠ .start → s.tracker.state = .acquire → 16 ≤ s.tracker.edges →
    let v := min 40000 (s.tracker.edges * s.image.edgeScale / (2 * 2 ^ s.tracker.rung))
    let b := max 2 (v * s.image.lockBand / 1000)
    let t := { s.tracker with latest := some v, emptyRun := 0 }
    let judged :=
      if ∃ w, s.tracker.comparison = some w ∧ ((v : Int) - w).natAbs ≤ b then
        { t with state := .locked, comparison := some v, unlocked := 0, excursions := 0 }
      else if s.tracker.unlocked = 3 then
        if s.tracker.requested = none ∧ s.tracker.rung < s.image.topRung then
          { t with rung := s.tracker.rung + 1, comparison := none, unlocked := 0 }
        else { t with comparison := some v, unlocked := 0 }
      else { t with comparison := some v, unlocked := s.tracker.unlocked + 1 }
    exec .gateEnd s = .next { s with tracker := judged.placed s.tracker s.image.floorRung s.image.topRung }

/-- In ACQUIRE, a gate end of fewer than 16 edges drops the comparison estimate and the unlocked count; it steps up
below t where no pin comes into force; at the ceiling rung, t or the pin, an empty gate counts to the empty run, the
fourth in a row entering STANDSTILL with both estimates dropped and every count 0, and a thin gate zeroes the run; then
the pin and the rung of the next gate (R3, R6, R7, R11, R12). Only the tracker changes. The model's own reading in it:
how a change of pin meets the state's rules, and when the ended gate's rung is the ceiling (log entries 10 and 11). -/
def Obligations.AcquireThinGate : Prop :=
  ∀ s : State, s.control.mode ≠ .start → s.tracker.state = .acquire → s.tracker.edges < 16 →
    let v := min 40000 (s.tracker.edges * s.image.edgeScale / (2 * 2 ^ s.tracker.rung))
    let ceiling := s.tracker.requested.getD s.image.topRung
    let t := { s.tracker with latest := some v, comparison := none, unlocked := 0 }
    let judged :=
      if s.tracker.requested = none ∧ s.tracker.rung < s.image.topRung then
        { t with rung := s.tracker.rung + 1, emptyRun := 0 }
      else if s.tracker.rung = ceiling ∧ s.tracker.edges = 0 then
        if s.tracker.emptyRun = 3 then
          { t with state := .standstill, rung := ceiling, latest := none, emptyRun := 0, excursions := 0 }
        else { t with emptyRun := s.tracker.emptyRun + 1 }
      else { t with emptyRun := 0 }
    exec .gateEnd s = .next { s with tracker := judged.placed s.tracker s.image.floorRung s.image.topRung }

/-- In LOCKED a gate end of 16 edges or more within 2B of the comparison estimate zeroes the excursion run, one beyond
it is an excursion, and the second in a row returns to ACQUIRE at the floor rung; a gate end of fewer than 16 edges
returns to ACQUIRE at rung min(r + 1, t); under a pin the rung is the pin's (R3, R4, R8, R9, R11, R12). No notice is
sent where the lock is kept, in any mode, or lost outside TRIM and TEST (R14): only the tracker changes. The model's own
reading in it: how a change of pin meets a change of state at one gate end (log entry 10). -/
def Obligations.LockedGate : Prop :=
  ∀ (s : State) (w : Nat), s.control.mode ≠ .start → s.tracker.state = .locked → s.tracker.comparison = some w →
    let v := min 40000 (s.tracker.edges * s.image.edgeScale / (2 * 2 ^ s.tracker.rung))
    let b := max 2 (v * s.image.lockBand / 1000)
    let t := { s.tracker with latest := some v }
    let lost :=
      { t with state := .acquire, comparison := none, unlocked := 0, emptyRun := 0, excursions := 0 }
    let judged :=
      if s.tracker.edges < 16 then { lost with rung := min (s.tracker.rung + 1) s.image.topRung }
      else if ((v : Int) - w).natAbs ≤ 2 * b then { t with comparison := some v, excursions := 0 }
      else if s.tracker.excursions = 1 then { lost with rung := s.image.floorRung }
      else { t with comparison := some v, excursions := s.tracker.excursions + 1 }
    (s.control.mode.hasAuthority = false ∨ judged.state = .locked) →
      exec .gateEnd s = .next { s with tracker := judged.placed s.tracker s.image.floorRung s.image.topRung }

/-- In STANDSTILL, where the reported speed is 0, the requested pin comes into force and the next gate runs at the
ceiling rung it gives; a gate end of 16 edges or more goes to ACQUIRE with the estimate and no comparison estimate, one
of fewer stays with both absent (R3, R10, R11, R13). Only the tracker changes. -/
def Obligations.StandstillGate : Prop :=
  ∀ s : State, s.SettingsOk → s.control.mode ≠ .start → s.tracker.state = .standstill → s.tracker.latest = none →
    s.tracker.comparison = none → s.tracker.unlocked = 0 → s.tracker.emptyRun = 0 →
      let v := min 40000 (s.tracker.edges * s.image.edgeScale / (2 * 2 ^ s.tracker.rung))
      let t :=
        { s.tracker with
          edges := 0, pin := s.tracker.requested, rung := s.tracker.requested.getD s.image.topRung }
      s.tracker.speed = 0 ∧ exec .gateEnd s = .next
        { s with tracker := if s.tracker.edges < 16 then t else { t with state := .acquire, latest := some v } }

/-- At a gate end the requested pin becomes the pin in force and the next gate runs at a pinned rung; a change of rung
in ACQUIRE drops the comparison estimate and both counts, in LOCKED it keeps them and the state. A pin released in
ACQUIRE or LOCKED leaves the rung within f..t (R11, R12). The model's own choice in it: how a change of pin meets a
change of state at one gate end (log entries 10 and 11). -/
def Obligations.PinAtGateEnd : Prop :=
  ∀ s : State, s.control.mode ≠ .start →
    ∃ t, exec .gateEnd s = .next t ∧ t.tracker.pin = s.tracker.requested
      ∧ t.tracker.requested = s.tracker.requested ∧ t.tracker.edges = 0
      ∧ (∀ p, s.tracker.requested = some p →
          t.tracker.rung = p
            ∧ (p ≠ s.tracker.rung → t.tracker.state = .acquire →
                t.tracker.comparison = none ∧ t.tracker.unlocked = 0 ∧ t.tracker.emptyRun = 0)
            ∧ (s.tracker.state = .locked → 16 ≤ s.tracker.edges → s.tracker.excursions = 0 →
                t.tracker.state = .locked ∧ t.tracker.comparison = t.tracker.latest))
      ∧ (s.tracker.requested = none → s.tracker.pin.isSome = true → s.image.floorRung ≤ s.image.topRung →
          t.tracker.state ≠ .standstill → s.tracker.state ≠ .standstill →
            s.image.floorRung ≤ t.tracker.rung ∧ t.tracker.rung ≤ s.image.topRung)

/-- A gate end that takes the tracker out of LOCKED in TRIM or TEST, with fewer than 16 edges or by the second excursion
in a row, under a pin or not, sends SPEED_LOSS: in its TRIP class the trip drop sets a, y and u to 0 and the mode to
REPORT, a test ends ABORTED, and the first-trip record shows the values before the drop and the speed after the gate;
in its WARN class nothing else happens; detect-masked, the notice is dropped and the tracker alone changes (R8, R9, R12,
R14, R110, R142, R163, R165, R167, R168). Nothing else changes. The model's own reading in it: how a change of pin meets
a change of state at one gate end (log entry 10). -/
def Obligations.SpeedLossDropsTrim : Prop :=
  ∀ (s : State) (w : Nat), s.LineOk → s.control.mode.hasAuthority = true → s.tracker.state = .locked →
    s.tracker.comparison = some w →
    let v := min 40000 (s.tracker.edges * s.image.edgeScale / (2 * 2 ^ s.tracker.rung))
    let b := max 2 (v * s.image.lockBand / 1000)
    (s.tracker.edges < 16 ∨ (2 * b < ((v : Int) - w).natAbs ∧ s.tracker.excursions = 1)) →
      let lost :=
        { s.tracker with
          state := .acquire
          rung :=
            if s.tracker.edges < 16 then min (s.tracker.rung + 1) s.image.topRung else s.image.floorRung
          latest := some v, comparison := none, unlocked := 0, emptyRun := 0, excursions := 0 }
      let t : State := { s with tracker := lost.placed s.tracker s.image.floorRung s.image.topRung }
      (s.fault.warns .speedLoss →
          exec .gateEnd s = .next { t with fault := s.fault.warned .speedLoss 0 s.control.evaluations })
        ∧ (s.FaultsOk → s.fault.masked .speedLoss → exec .gateEnd s = .next t)
        ∧ (s.fault.trips .speedLoss →
            exec .gateEnd s = .next
              { t with
                control := { s.control with mode := .report, authority := 0, trim := 0 }
                balance := { s.balance with integrator := 0, saturationRun := 0, shareRun := 0, groupShort := false }
                drive := { s.drive with posted := false }
                excitation :=
                  if s.control.mode = .test then
                    { s.excitation with
                      running := false, offset := 0, sentStep := 0, sentLevel := .zero
                      verdict := some
                        { outcome := .aborted, count := s.excitation.count, steps := s.excitation.stepIndex,
                          baseline := s.excitation.baseline } }
                  else s.excitation
                fault := s.fault.tripped
                  { kind := .speedLoss, source := 0, evaluation := s.control.evaluations, mode := s.control.mode,
                    speed := v, speedValid := false, torque := s.drive.held, integrator := s.balance.integrator,
                    authority := s.control.authority
                    testStep := if s.control.mode = .test then some s.excitation.stepIndex else none
                    cause := none } })

/-! ### The drive link -/

/-- A TORQUE frame whose last characters arrive and whose check holds is taken while the count is below 255: its word,
or the nearer limit of ±30000, to the sum, both counts up, drive-ready replaced, the receiver hunting again; a frame
showing the drive ready releases a posted notice; a word beyond a limit sends TORQUE_RANGE: in its WARN class it goes to
the first-warn record, in its TRIP class to the first-trip record, and in TRIM and TEST its trip drop sets a, y and u to
0 and the mode to REPORT and ends a test ABORTED; detect-masked, the notice is dropped. Here no DRIVE_LINK notice is
due. Nothing else changes (R17, R19 to R21, R110, R142, R163, R165, R167, R194). -/
def Obligations.TorqueFrameTaken : Prop :=
  ∀ (s : State) (start word flags sum : List Byte) (hi lo fl : Byte), s.FaultsOk → s.control.mode ≠ .start →
    s.drive.opened.length ≤ 4 →
    s.drive.opened ++ (start ++ word ++ flags ++ sum) = [0xD1, hi, lo, fl, 0xD1 + hi + lo + fl] →
    s.drive.count < 255 → (fl.getLsbD 0 = true ∨ s.control.mode.hasAuthority = false ∨ s.drive.posted = true) →
      let value := (hi ++ lo).toInt
      let taken (added : Int) : State :=
        { s with drive :=
            { s.drive with
              opened := []
              sum := s.drive.sum + added
              count := s.drive.count + 1
              framesTaken := s.drive.framesTaken + 1
              ready := fl.getLsbD 0
              posted := s.drive.posted && !fl.getLsbD 0 } }
      let nearer : Int := if value < 0 then -30000 else 30000
      let beyond := value < -30000 ∨ 30000 < value
      let record : TripContents :=
        { kind := .torqueRange, source := 0, evaluation := s.control.evaluations, mode := s.control.mode,
          speed := s.tracker.speed, speedValid := s.tracker.valid, torque := s.drive.held,
          integrator := s.balance.integrator, authority := s.control.authority
          testStep := if s.control.mode = .test then some s.excitation.stepIndex else none
          cause := none }
      let tripped : State := { taken nearer with fault := s.fault.tripped record }
      let command := Instr.torqueFrame start word flags sum
      (¬beyond → exec command s = .next (taken value))
        ∧ (beyond → s.fault.masked .torqueRange → exec command s = .next (taken nearer))
        ∧ (beyond → s.fault.warns .torqueRange →
            exec command s = .next
              { taken nearer with fault := s.fault.warned .torqueRange 0 s.control.evaluations })
        ∧ (beyond → s.fault.trips .torqueRange → s.control.mode.hasAuthority = false →
            exec command s = .next tripped)
        ∧ (beyond → s.fault.trips .torqueRange → s.control.mode.hasAuthority = true → s.LineOk →
            exec command s = .next
              { tripped with
                drive := { tripped.drive with posted := false }
                control := { s.control with mode := .report, authority := 0, trim := 0 }
                balance := { s.balance with integrator := 0, saturationRun := 0, shareRun := 0, groupShort := false }
                excitation :=
                  if s.control.mode = .test then
                    { s.excitation with
                      running := false, offset := 0, sentStep := 0, sentLevel := .zero
                      verdict := some
                        { outcome := .aborted, count := s.excitation.count, steps := s.excitation.stepIndex,
                          baseline := s.excitation.baseline } }
                  else s.excitation })

/-- A not-ready frame taken in TRIM or TEST with no notice posted sends DRIVE_LINK with cause "not ready" and posts it.
In its TRIP class the trip drop sets a, y and u to 0 and the mode to REPORT and ends a test ABORTED, x 0, with the count
and the steps run, and the mode's change releases the posting; in its WARN class the notice is recorded and posted and
the node stays in its mode; detect-masked, it is posted and nothing else. A word beyond a limit sends TORQUE_RANGE in
the same set: each goes to its own class's record, two of one class show DRIVE_LINK, the lower number, with the
record's multiple flag set, a TRIP-class one of either kind makes the one drop, and a detect-masked one is as if it were
not in the set (R20, R21, R110, R140, R142, R163 to R168). Nothing else changes. -/
def Obligations.NotReadyAbortsTest : Prop :=
  ∀ (s : State) (start word flags sum : List Byte) (hi lo fl : Byte), s.LineOk → s.control.mode.hasAuthority = true →
    s.drive.opened.length ≤ 4 →
    s.drive.opened ++ (start ++ word ++ flags ++ sum) = [0xD1, hi, lo, fl, 0xD1 + hi + lo + fl] →
    s.drive.count < 255 → fl.getLsbD 0 = false → s.drive.posted = false → s.FaultsOk →
      let value := (hi ++ lo).toInt
      let beyond := value < -30000 ∨ 30000 < value
      let record (kind : Kind) (cause : Option Cause) : TripContents :=
        { kind := kind, source := 0, evaluation := s.control.evaluations, mode := s.control.mode,
          speed := s.tracker.speed, speedValid := s.tracker.valid, torque := s.drive.held,
          integrator := s.balance.integrator, authority := s.control.authority
          testStep := if s.control.mode = .test then some s.excitation.stepIndex else none
          cause := cause }
      let link := record .driveLink (some .notReady)
      let range := record .torqueRange none
      let posted (fault : FaultUnit) : State :=
        { s with
          drive :=
            { s.drive with
              opened := []
              sum := s.drive.sum + max (-30000) (min 30000 value)
              count := s.drive.count + 1
              framesTaken := s.drive.framesTaken + 1
              ready := false
              posted := true }
          fault := fault }
      let dropped (fault : FaultUnit) : State :=
        { posted fault with
          drive := { (posted fault).drive with posted := false }
          control := { s.control with mode := .report, authority := 0, trim := 0 }
          balance := { s.balance with integrator := 0, saturationRun := 0, shareRun := 0, groupShort := false }
          excitation :=
            if s.control.mode = .test then
              { s.excitation with
                running := false, offset := 0, sentStep := 0, sentLevel := .zero
                verdict := some
                  { outcome := .aborted, count := s.excitation.count, steps := s.excitation.stepIndex,
                    baseline := s.excitation.baseline } }
            else s.excitation }
      let warned (f : FaultUnit) (kind : Kind) : FaultUnit := f.warned kind 0 s.control.evaluations
      let becomes (t : State) : Prop := exec (.torqueFrame start word flags sum) s = .next t
      (¬beyond ∨ s.fault.masked .torqueRange →
          (s.fault.trips .driveLink → becomes (dropped (s.fault.tripped link)))
            ∧ (s.fault.warns .driveLink → becomes (posted (warned s.fault .driveLink)))
            ∧ (s.fault.masked .driveLink → becomes (posted s.fault)))
        ∧ (beyond → s.fault.warns .torqueRange →
          (s.fault.trips .driveLink → becomes (dropped ((warned s.fault .torqueRange).tripped link)))
            ∧ (s.fault.warns .driveLink →
                becomes (posted { warned (s.fault.raised .torqueRange) .driveLink with multipleWarn := true }))
            ∧ (s.fault.masked .driveLink → becomes (posted (warned s.fault .torqueRange))))
        ∧ (beyond → s.fault.trips .torqueRange →
          (s.fault.trips .driveLink →
              becomes (dropped { (s.fault.raised .torqueRange).tripped link with multipleTrip := true }))
            ∧ (s.fault.warns .driveLink → becomes (dropped ((warned s.fault .driveLink).tripped range)))
            ∧ (s.fault.masked .driveLink → becomes (dropped (s.fault.tripped range))))

/-- A whole frame that fails its sum check, one offered while the count stands at 255, and an open one cut off by a gap
or a framing error each move the torque-discard counter, saturating at 65535, and leave the receiver hunting. While it
hunts, characters other than the start character are dropped, and gaps and framing errors counted nowhere; the start
character opens a frame, and what follows is taken whatever its value. Nothing else changes (R17 to R19). The model's
own choice in it: the characters are the commands' operands, and gaps and framing errors commands of their own (log
entry 15). -/
def Obligations.TorqueFrameDiscarded : Prop :=
  ∀ (s : State) (start word flags sum : List Byte), s.control.mode ≠ .start → s.drive.opened.length ≤ 4 →
    let chars := start ++ word ++ flags ++ sum
    let holding (kept : List Byte) : State := { s with drive := { s.drive with opened := kept } }
    let t : State := { s with drive := { s.drive with opened := [], discards := min 65535 (s.drive.discards + 1) } }
    (∀ hi lo fl check : Byte, s.drive.opened ++ chars = [0xD1, hi, lo, fl, check] →
        (check ≠ 0xD1 + hi + lo + fl ∨ 255 ≤ s.drive.count) →
          exec (.torqueFrame start word flags sum) s = .next t)
      ∧ (s.drive.opened ≠ [] → exec .torqueGapCutOff s = .next t ∧ exec .torqueFramingError s = .next t
          ∧ ((s.drive.opened ++ chars).length ≤ 4 →
              exec (.torqueFrame start word flags sum) s = .next (holding (s.drive.opened ++ chars))))
      ∧ (s.drive.opened = [] → exec .torqueGapCutOff s = .next s ∧ exec .torqueFramingError s = .next s
          ∧ ∀ dropped rest : List Byte, chars = dropped ++ rest → (∀ c ∈ dropped, c ≠ 0xD1) → rest.length ≤ 4 →
              (∀ c ∈ rest.head?, c = 0xD1) →
                exec (.torqueFrame start word flags sum) s = .next (holding rest))

/-! ### Evaluations -/

/-- At every evaluation, whatever the order of the blocks' works, the evaluations counter moves on by 1 and the
accumulator closes: its mean, truncated toward zero, becomes the held torque with a stale run of 0; an empty one
leaves the held torque and lengthens the stale run up to 255; a held torque lies within ±30000. Where the stale run
becomes 3 in TRIM or TEST, and nowhere else, DRIVE_LINK is counted once unless detect-masked; in its TRIP class the evaluation ends in REPORT
with a, y and u at 0 and no test running, and a record not locked before shows cause "stale". The tracker, the start
unit, the handler, the line's counters, run, step and sequence, the drive-ready flag and the link's counters are
untouched (R22, R23, R95, R110). The model's own choice in it: the order of the works is the command's operand, and in
HOLD the accumulator closes too (log entries 1 and 18). -/
def Obligations.EvaluationClosesAccumulator : Prop :=
  ∀ (order : List EvalWork) (s : State), s.control.mode ≠ .start →
    let lapsing := s.drive.count = 0 ∧ s.drive.staleRun = 2 ∧ s.control.mode.hasAuthority = true
    ∃ t, exec (.evaluation { order := order }) s = .next t ∧ t.control.evaluations = s.control.evaluations + 1
      ∧ t.drive.sum = 0 ∧ t.drive.count = 0
      ∧ (1 ≤ s.drive.count → t.drive.held = s.drive.sum.tdiv s.drive.count ∧ t.drive.staleRun = 0)
      ∧ (s.drive.count = 0 → t.drive.held = s.drive.held ∧ t.drive.staleRun = min 255 (s.drive.staleRun + 1))
      ∧ (s.DriveOk → t.drive.held.natAbs ≤ 30000)
      ∧ (lapsing → s.fault.detectMask.getLsbD 2 = false →
          t.fault.status.getLsbD 2 = true ∧ t.fault.counts[2] = min 255 (s.fault.counts[2] + 1))
      ∧ (¬lapsing ∨ s.fault.masked .driveLink → t.fault.counts[2] = s.fault.counts[2])
      ∧ (lapsing → s.fault.trips .driveLink → s.AuthorityOk →
          t.control.mode = .report ∧ t.control.authority = 0 ∧ t.control.trim = 0 ∧ t.balance.integrator = 0
            ∧ (s.control.mode = .test → t.excitation.running = false)
            ∧ (s.fault.classMap &&& 0x3780 = 0 → (∀ c, s.fault.firstTrip ≠ .locked c) →
                ∃ c, t.fault.firstTrip = .locked c ∧ c.kind = .driveLink ∧ c.source = 0 ∧ c.cause = some .stale
                  ∧ c.evaluation = s.control.evaluations + 1 ∧ c.torque = s.drive.held))
      ∧ t.tracker = s.tracker ∧ t.startUnit = s.startUnit ∧ t.handler = s.handler ∧ t.clock = s.clock
      ∧ t.drive.opened = s.drive.opened ∧ t.drive.ready = s.drive.ready ∧ t.drive.discards = s.drive.discards
      ∧ t.drive.framesTaken = s.drive.framesTaken ∧ t.line.step = s.line.step ∧ t.line.badRun = s.line.badRun
      ∧ t.line.sequence = s.line.sequence ∧ t.line.goodFrames = s.line.goodFrames
      ∧ t.line.badFrames = s.line.badFrames ∧ t.line.reportsSent = s.line.reportsSent
      ∧ t.line.attempt = s.line.attempt ∧ t.line.rx = s.line.rx

/-- Once an evaluation's work is complete, the report slot is filled in REPORT, TRIM and TEST, the refill mark set
during an attempt, and in LISTEN the line is as it was. Then the late events are taken, each with the effect of its own
command, but that no attempt begins while a test's new offset is in no frame yet; and the REFERENCE frame is formed by
the mode then standing: y in TRIM, x in TEST with excitation-active set, 0 in LISTEN and REPORT, none in HOLD or START;
its word becomes the last reference word, and the frame before it has been sent (R25, R26, R37, R41, R66, R87, R108,
R136, R194). The model's own choice in it: the order of the works, that the command says which events of the peer table
fall within them and which events between them and the frame, the output record, the refill mark's life, and the attempt
that waits (log entries 1, 2, 14, 19 and 27). -/
def Obligations.EvaluationSendsReference : Prop :=
  ∀ (order : List EvalWork) (during : List Interruption) (s : State), s.control.mode.lineOn = true →
    let sent (u : State) : State :=
      if u.control.mode = .hold ∨ u.control.mode = .start then u
      else
        let word : Int := match u.control.mode with
          | .trim _ => u.control.trim
          | .test => u.excitation.offset
          | _ => 0
        let hi := (BitVec.ofInt 16 word).extractLsb' 8 8
        let lo := (BitVec.ofInt 16 word).extractLsb' 0 8
        let flag : Byte := if u.control.mode = .test then 1 else 0
        { u with drive :=
            { u.drive with
              lastWord := word
              sending := some [0xB2, hi, lo, flag, 0xB2 + hi + lo + flag]
              frame := if u.drive.sending = none then u.drive.frame else u.drive.sending } }
    ∃ w : State, (∀ late : List LateEvent,
        exec (.evaluation { order := order, during := during, late := late }) s
          = .next (sent (w.throughLate late)))
      ∧ w.control.mode ≠ .start ∧ w.drive.lastWord = s.drive.lastWord ∧ w.drive.sending = s.drive.sending
      ∧ w.drive.frame = s.drive.frame
      ∧ (w.control.mode.reports = true →
          w.line.reportDue = true ∧ (w.line.attempt = none → w.line.tx = .deferring))
      ∧ (during = [] →
          w.control.mode.lineOn = true ∧ (w.control.mode = .listen ↔ s.control.mode = .listen)
            ∧ (s.control.mode = .listen → w.line = s.line)
            ∧ (s.control.mode ≠ .listen → w.line.refill = (s.line.refill || s.line.attempt.isSome)))

/-- At each evaluation in TRIM the fade step is taken: FADE_IN raises a by 1 and becomes FULL at F, FULL keeps a,
FADE_OUT lowers a by 1 with u frozen and ends at 0 in REPORT; then y = u × a / F, truncated toward zero. A node that
leaves TRIM at an evaluation, by the fade's end or a trip drop, is in REPORT with a, y and u at 0; with no TRIP-class
notice due it leaves it by the fade's end alone. An evaluation that ends in FADE_OUT keeps the saturation run, and the
share-tolerance run is 0 (R81, R85, R86, R103 to R105, R110). The model's own choice in it: the order of the works is
the command's operand (log entry 1). -/
def Obligations.EvaluationFadesTrim : Prop :=
  ∀ (order : List EvalWork) (s : State) (p : Phase), s.control.mode = .trim p →
    ∃ t, exec (.evaluation { order := order }) s = .next t
      ∧ (t.control.mode.isTrim = false →
          t.control.mode = .report ∧ t.control.authority = 0 ∧ t.control.trim = 0 ∧ t.balance.integrator = 0)
      ∧ (t.control.mode.isTrim = true →
          (p = .fadeIn → t.control.authority = s.control.authority + 1
            ∧ t.control.mode = .trim (if s.control.authority + 1 = s.image.fadeLength then .full else .fadeIn))
          ∧ (p = .full → t.control.authority = s.control.authority ∧ t.control.mode = .trim .full)
          ∧ (p = .fadeOut → 1 < s.control.authority ∧ t.control.authority = s.control.authority - 1
            ∧ t.control.mode = .trim .fadeOut ∧ t.balance.integrator = s.balance.integrator
            ∧ t.balance.saturationRun = s.balance.saturationRun ∧ t.balance.shareRun = 0)
          ∧ t.control.trim = (t.balance.integrator * t.control.authority).tdiv s.image.fadeLength)
      ∧ (s.Calm → t.control.mode.isTrim = true ∨ (p = .fadeOut ∧ s.control.authority ≤ 1))

/-- An assessed share result: with the node's speed valid, a frame in the interval, a group other than 0 and at least
one peer in it, the group totals, target, error, increment, centering term and clamped step are those of R75 to R80 over
the node and the peers that meet R73, at this evaluation's torque mean; in TRIM the step is added to u within ±L and the
group-short flag cleared, outside it u is 0. In TRIM the saturation run counts the evaluations that end with |u| = L, L
not 0, and TRIM_SATURATED is sent when it reaches 16; the share-tolerance run counts those in FULL with |e| beyond the
tolerance, and SHARE_TOL is sent when it reaches 8; at the fade step that makes the phase FULL it counts where that step
comes first. In FADE_OUT the share is computed alike, u is frozen and the saturation run kept, and the evaluation that
ends the fade-out ends with u and both runs 0, the centering taking u as 0 where the fade step comes first (R71 to R81,
R84 to R87, R89, R104). The model's own choice in it: the order of the works is the command's operand (log entry 1). -/
def Obligations.ShareIsAssessed : Prop :=
  ∀ (order : List EvalWork) (s : State), s.Calm → s.control.mode.lineOn = true → s.control.mode ≠ .test →
    s.tracker.state = .locked → 1 ≤ s.drive.count → s.image.group ≠ 0 →
    s.groupPeers ≠ [] →
      let peers := s.groupPeers
      let torque := s.drive.sum.tdiv s.drive.count
      let members := peers.length + 1
      let tg := torque + (peers.map fun r => r.contents.torque).sum
      let wg := s.image.weight + (peers.map fun r => r.shape.weight).sum
      let nearest := (tg * s.image.weight).sign * ((2 * (tg * s.image.weight).natAbs + wg) / (2 * wg) : Nat)
      let target := max (-30000) (min 30000 nearest)
      let e := torque - target
      let b := s.handler.tuning.deadband
      let e' := if e.natAbs ≤ b then 0 else if 0 < e then e - b else e + b
      let r := (-(e' * s.handler.tuning.shareGain)).tdiv 256
      let fading := s.control.mode = .trim .fadeOut
      let ending := fading ∧ s.control.authority ≤ 1
      let stepFirst := (scheduleOf order).idxOf .fadeStep < (scheduleOf order).idxOf .balanceEngine
      let own := if ending ∧ stepFirst then 0 else s.balance.integrator
      let m := (own + (peers.map fun r => r.contents.trim).sum).tdiv members
      let c := (-m).tdiv 8
      let rate : Int := s.handler.tuning.rateLimit
      let limit : Int := s.handler.tuning.trimLimit
      let step := max (-rate) (min rate (r + c))
      let u :=
        if s.control.mode.isTrim = false ∨ ending then 0
        else if fading then s.balance.integrator
        else max (-limit) (min limit (s.balance.integrator + step))
      let saturated := 1 ≤ limit ∧ (u.natAbs : Int) = limit
      let outside := s.handler.tuning.shareTolerance < e.natAbs
      let counted := if outside then min 255 (s.balance.shareRun + 1) else 0
      ∃ t, exec (.evaluation { order := order }) s = .next t
        ∧ t.balance.result = some
            { evaluation := s.control.evaluations + 1, outcome := .assessed tg wg target e r c, members := members,
              step := step }
        ∧ t.balance.integrator = u
        ∧ t.balance.groupShort = (if s.control.mode.isTrim then false else s.balance.groupShort)
        ∧ t.balance.saturationRun =
            (if ending then 0 else if s.control.mode.isTrim = false ∨ fading then s.balance.saturationRun
              else if saturated then min 255 (s.balance.saturationRun + 1) else 0)
        ∧ (s.control.mode = .trim .full → t.balance.shareRun = counted)
        ∧ (s.control.mode ≠ .trim .full →
            if s.control.mode = .trim .fadeIn ∧ s.control.authority + 1 = s.image.fadeLength ∧ stepFirst then
              t.balance.shareRun = counted
            else t.balance.shareRun = 0)
        ∧ t.fault.counts[7] = s.fault.counts[7]
        ∧ (s.fault.detectMask.getLsbD 8 = false →
            if t.balance.saturationRun = 16 ∧ s.balance.saturationRun ≠ 16 then
              t.fault.status.getLsbD 8 = true ∧ t.fault.counts[8] = min 255 (s.fault.counts[8] + 1)
            else t.fault.counts[8] = s.fault.counts[8])
        ∧ (s.fault.detectMask.getLsbD 9 = false →
            if t.balance.shareRun = 8 ∧ s.balance.shareRun ≠ 8 then
              t.fault.status.getLsbD 9 = true ∧ t.fault.counts[9] = min 255 (s.fault.counts[9] + 1)
            else t.fault.counts[9] = s.fault.counts[9])

/-- An unassessed share result: the first reason that applies of own speed not valid, own torque stale, own group 0,
the mode TEST and no peer in the group, the members found, and a step of 0; in TRIM, in any phase, u is held and
GROUP_SHORT is sent at the first evaluation of the run only; outside TRIM u is 0 and the group-short flag stays; the
saturation run stays and the share-tolerance run is 0. The evaluation that ends a fade-out ends with u, the runs and the
flag cleared, and GROUP_SHORT is sent at it where the engine works before the fade step (R74, R81, R84 to R87, R89,
R104). A test does not end at it. The model's own choice in it: the order of the works is the command's operand (log
entry 1). -/
def Obligations.ShareIsUnassessed : Prop :=
  ∀ (order : List EvalWork) (s : State) (reason : ShareReason), s.Calm → s.control.mode.lineOn = true →
    (s.control.mode = .test → ∃ p, s.excitation.pattern = some p ∧ s.excitation.position + 1 ≠ p.hold) →
    (if s.tracker.state ≠ .locked then some ShareReason.speed else if s.drive.count = 0 then some .torque
      else if s.image.group = 0 then some .noGroup else if s.control.mode = .test then some .inTest
      else if s.groupPeers = [] then some .short else none)
        = some reason →
      let ending := s.control.mode = .trim .fadeOut ∧ s.control.authority ≤ 1
      let stepFirst := (scheduleOf order).idxOf .fadeStep < (scheduleOf order).idxOf .balanceEngine
      ∃ t, exec (.evaluation { order := order }) s = .next t
        ∧ t.balance.result = some
            { evaluation := s.control.evaluations + 1, outcome := .unassessed reason,
              members := if reason = .short then 1 else s.groupPeers.length, step := 0 }
        ∧ t.balance.integrator = (if s.control.mode.isTrim = true ∧ ¬ending then s.balance.integrator else 0)
        ∧ t.balance.saturationRun = (if ending then 0 else s.balance.saturationRun) ∧ t.balance.shareRun = 0
        ∧ t.balance.groupShort =
            (if ending then false else if s.control.mode.isTrim then true else s.balance.groupShort)
        ∧ (if s.control.mode.isTrim = true ∧ s.balance.groupShort = false ∧ ¬(ending ∧ stepFirst)
              ∧ s.fault.detectMask.getLsbD 7 = false then
            t.fault.status.getLsbD 7 = true ∧ t.fault.counts[7] = min 255 (s.fault.counts[7] + 1)
          else t.fault.counts[7] = s.fault.counts[7])

/-- The draw verifier at an evaluation, whatever the order: the draw is unassessed with the first reason of R119 that
applies, or is the rounded and clamped quotient of R120 on the mean upstream speed of R118; the run moves by R121, and
DRAW_TOL is sent when it reaches 4 and then only; the draw result records them with this evaluation's number. An event
of the peer table may fall while the verifier reads the table: the entries it has read by then count as they were
before the event and the others as they are after it, and the entries stand afterwards as the event left them (R66, R116
to R121, R123). The model's own choice in it: the order of the works is the command's operand, and so are the event and
what has been read (log entries 1 and 2). -/
def Obligations.DrawIsVerified : Prop :=
  ∀ (order : List EvalWork) (event : Option TableEvent) (read : List Nat) (s : State),
    let u : State := match event with
      | none => s
      | some e => s.through [TableEvent.command e]
    let during : List Interruption := match event with
      | none => []
      | some e => [{ before := .drawVerifier, event := e, read := read }]
    let seen (k : Nat) : PeerEntry := if k ∈ read then s.peer k else u.peer k
    let speeds : List Nat :=
      if s.image.position < 2 then []
      else stations.filterMap fun k =>
        match (seen k).state, (seen k).stored with
        | .qualified, some r =>
          if k ≠ s.own ∧ r.shape.position + 1 = s.image.position ∧ r.contents.speedValid = true then
            some r.contents.speed
          else none
        | _, _ => none
    let up := speeds.sum / speeds.length
    let own := s.tracker.speed
    let z := ((own : Int) - up) * 10000
    let draw := max (-9999) (min 9999 (z.sign * ((2 * z.natAbs + up) / (2 * up) : Nat)))
    let outcome : DrawOutcome :=
      if s.image.position < 2 then .unassessed .position
      else if s.tracker.state ≠ .locked then .unassessed .speed
      else if speeds = [] then .unassessed .noUpstream
      else if up < 100 then .unassessed .slow
      else .assessed own draw
    let run :=
      if s.image.position < 2 ∨ s.tracker.state ≠ .locked ∨ speeds = [] ∨ up < 100 then 0
      else if (s.handler.tuning.drawTolerance : Int) < (draw - s.handler.tuning.drawSetpoint).natAbs then
        min 255 (s.draw.run + 1)
      else 0
    s.control.mode.lineOn = true → u.control.mode.lineOn = true →
    ∃ t, exec (.evaluation { order := order, during := during }) s = .next t
      ∧ (∀ k, (t.peer k).state = (u.peer k).state ∧ (t.peer k).stored = (u.peer k).stored)
      ∧ t.draw =
          { run := run
            result := some
              { evaluation := s.control.evaluations + 1, outcome := outcome, upstreamCount := speeds.length,
                upstreamSpeed := if speeds = [] then none else some up, run := run } }
      ∧ (s.fault.detectMask.getLsbD 10 = false →
          if run = 4 ∧ s.draw.run ≠ 4 then
            t.fault.status.getLsbD 10 = true ∧ t.fault.counts[10] = min 255 (s.fault.counts[10] + 1)
          else t.fault.counts[10] = s.fault.counts[10])

/-- An evaluation in TEST, with no TRIP-class notice due: the offset of the step is set and sent, a settled evaluation's
response is checked against the baseline and the offset, the position advances, TEST_LIMIT is sent once in a test, at
the first count beyond the target, and past the last step the test ends with PASS or FAIL, offset and sent step at 0, in
REPORT (R133 to R135, R137, R139, R140). The model's own choice in it: the order of the works is the command's operand
(log entry 1). -/
def Obligations.TestEvaluation : Prop :=
  ∀ (order : List EvalWork) (s : State) (p : Pattern), s.Calm → s.control.mode = .test →
    s.excitation.pattern = some p →
      let level := p.levels.getD s.excitation.stepIndex .zero
      let x : Int := match level with
        | .minus => -p.amplitude
        | .zero => 0
        | .plus => p.amplitude
      let wrong := s.tracker.state ≠ .locked
        ∨ (p.tolerance : Int) < (((s.tracker.speed : Int) - s.excitation.baseline) - x).natAbs
      let counted := p.hold / 2 ≤ s.excitation.position ∧ wrong
      let count := if counted then s.excitation.count + 1 else s.excitation.count
      let target := p.target.toNat / 16 * 2 ^ (p.target.toNat % 16)
      let posted := s.excitation.limitPosted || decide (counted ∧ target < count)
      let after : Excitation := { s.excitation with count := count, limitPosted := posted }
      ∃ t, exec (.evaluation { order := order }) s = .next t
        ∧ (s.fault.detectMask.getLsbD 12 = false →
            if counted ∧ target < count ∧ s.excitation.limitPosted = false then
              t.fault.status.getLsbD 12 = true ∧ t.fault.counts[12] = min 255 (s.fault.counts[12] + 1)
            else t.fault.counts[12] = s.fault.counts[12])
        ∧ (s.excitation.position + 1 ≠ p.hold →
            t.control.mode = .test ∧ t.excitation =
              { after with
                offset := x, sentStep := s.excitation.stepIndex, sentLevel := level,
                position := s.excitation.position + 1 })
        ∧ (s.excitation.position + 1 = p.hold → s.excitation.stepIndex + 1 ≠ p.levels.length →
            t.control.mode = .test ∧ t.excitation =
              { after with
                offset := x, sentStep := s.excitation.stepIndex, sentLevel := level, position := 0,
                stepIndex := s.excitation.stepIndex + 1 })
        ∧ (s.excitation.position + 1 = p.hold → s.excitation.stepIndex + 1 = p.levels.length →
            t.control.mode = .report ∧ t.excitation =
              { after with
                offset := 0, sentStep := 0, sentLevel := .zero, position := 0, stepIndex := p.levels.length,
                running := false
                verdict := some
                  { outcome := if count ≤ target then .pass else .fail, count := count, steps := p.levels.length,
                    baseline := s.excitation.baseline } })

/-- The observation slot at an evaluation in LISTEN, REPORT or TRIM, by R150's table with R149 and R152 going on: a
PENDING observation takes its baseline, a COUNTING one counts down and is judged at 0, one closed early is judged and
its successor armed with the same torque, one with the final mark is judged and the verdict given, with
COUPLING_MISMATCH sent where it contradicts the groups and nowhere else; over a stale torque it is counted missed, and a
successor likewise. Every other entry is as it was (R149 to R154). The model's own choice in it: the order of the works
is the command's operand (log entry 1). -/
def Obligations.ObservationAtEvaluation : Prop :=
  ∀ (order : List EvalWork) (s : State) (k : Nat), k ∈ stations →
    s.control.mode.lineOn = true → s.control.mode ≠ .test → s.observation.peer? = some k →
      let torque := s.drive.sum.tdiv s.drive.count
      let stale := s.drive.count = 0
      let θ := s.handler.tuning.couplingThreshold
      let e := s.peer k
      let final (sign : Sign) (base : Int) (successor : Option Sign) : PeerEntry :=
        let judged := if stale then e.missedOnce else e.judgedOn sign (torque - base) θ
        PeerEntry.concluded (if successor.isSome then judged.missedOnce else judged)
      ∃ t, exec (.evaluation { order := order }) s = .next t ∧ (∀ j, j ≠ k → t.peer j = s.peer j)
        ∧ (match s.observation with
          | .empty => True
          | .pending _ sign n =>
            if stale then t.observation = .empty ∧ t.peer k = e.missedOnce
            else t.observation = .counting k sign torque n none false ∧ t.peer k = e
          | .counting _ sign base n none false =>
            if stale then t.observation = .empty ∧ t.peer k = e.missedOnce
            else if n ≤ 1 then t.observation = .empty ∧ t.peer k = e.judgedOn sign (torque - base) θ
            else t.observation = .counting k sign base (n - 1) none false ∧ t.peer k = e
          | .counting _ sign base _ (some next) false =>
            if stale then t.observation = .empty ∧ t.peer k = e.missedOnce.missedOnce
            else
              t.observation = .counting k next torque s.handler.tuning.couplingWindow none false
                ∧ t.peer k = e.judgedOn sign (torque - base) θ
          | .counting _ sign base _ successor true =>
            t.observation = .empty ∧ t.peer k = final sign base successor)
        ∧ (s.fault.detectMask.getLsbD 13 = false →
            (∀ sign base n successor, s.observation = .counting k sign base n successor true →
                s.Disagrees (final sign base successor) →
                  t.fault.status.getLsbD 13 = true ∧ t.fault.counts[13] = min 255 (s.fault.counts[13] + 1))
              ∧ ((∀ sign base n successor, s.observation = .counting k sign base n successor true →
                  ¬s.Disagrees (final sign base successor)) → t.fault.counts[13] = s.fault.counts[13]))

/-! ### Peers' reports -/

/-- A report taken where it starts a run (the entry ABSENT or lapsed) or continues one (sequence one more, shape
unchanged), and which begins no test, its mode TEST only where it was TEST before or nothing was stored; of a peer whose
test is followed, one that stays in TEST at an unchanged level, or that shows no TEST as the one before it did while its
verdict waits: no transition and no end. The pass count becomes 1 or rises to Q, QUALIFIED exactly at Q, the report is stored, the stale flag
cleared and the watchdog set to twice the report's period; the disqualification count, the marker, the tallies and the
observation slot stay, and no notice is sent. Nothing else changes (R47, R50 to R53, R55, R145, R146, R152). The model's own choice in it: moments are in µs and the clock is the
latest one heard (log entry 3). -/
def Obligations.ReportStartsOrContinues : Prop :=
  ∀ (s : State) (moment : Nat) (station : BitVec 6) (r : Report), s.Open → 1 ≤ station.toNat → station.toNat ≤ 40 →
    station.toNat ≠ s.own → r.inRange = true → s.NotOwnFrame (contention 2 station) (composeReport r) →
    (r.contents.mode = .test → ∀ old ∈ (s.peer station.toNat).stored, old.contents.mode = .test) →
    ((s.peer station.toNat).marker = true → ∀ old ∈ (s.peer station.toNat).stored, old.contents.mode = .test →
      r.contents.mode = .test ∧ r.contents.testLevel = old.contents.testLevel) →
      let k := station.toNat
      let e := s.peer k
      let q := s.image.passThreshold
      let taken (pass : Nat) : State :=
        (s.heard moment).setPeer k
          { e with
            state := if pass = q then .qualified else .probation
            passCount := pass
            stored := some r
            stale := false
            deadline := some (max s.clock moment + 2000 * r.shape.period) }
      let starts := e.state = .absent ∨ (e.state = .probation ∧ e.passCount = 0)
      (starts → exec (.reportArrival moment station (composeReport r)) s = .next (taken 1))
        ∧ ∀ old, ¬starts → e.stored = some old → r.sequence = old.sequence + 1 → r.shape = old.shape →
            exec (.reportArrival moment station (composeReport r)) s = .next (taken (min q (e.passCount + 1)))

/-- A report that breaks a peer's run and begins no test: pass count 1, QUALIFIED only with Q = 1, the disqualification
count up by 1 to at most 255; PEER_UNSTEADY with the peer as source where the entry was QUALIFIED, here WARN class, and
no notice where it was in PROBATION. It is a demotion: where the peer's test was followed, the following is abandoned
before the update is told, its verdict UNDETERMINED, its tallies kept, and an observation of the peer is discarded.
Nothing else changes (R51, R54 to R56, R63, R64, R145, R155). The model's own choice in it: moments are in µs and the
clock is the latest one heard (log entry 3). -/
def Obligations.ReportBreaks : Prop :=
  ∀ (s : State) (moment : Nat) (station : BitVec 6) (r old : Report), s.Open → 1 ≤ station.toNat →
    station.toNat ≤ 40 → station.toNat ≠ s.own → r.inRange = true →
    s.NotOwnFrame (contention 2 station) (composeReport r) →
    (r.contents.mode = .test → old.contents.mode = .test) → s.fault.warns .peerUnsteady →
      let k := station.toNat
      let e := s.peer k
      e.state ≠ .absent → e.passCount ≠ 0 → e.stored = some old →
      (r.sequence ≠ old.sequence + 1 ∨ r.shape ≠ old.shape) →
        exec (.reportArrival moment station (composeReport r)) s = .next
          (State.setPeer
            { s.heard moment with
              fault :=
                if e.state = .qualified then s.fault.warned .peerUnsteady k s.control.evaluations else s.fault
              observation := if e.marker = true ∧ s.observation.peer? = some k then .empty else s.observation }
            k
            { e with
              state := if s.image.passThreshold = 1 then .qualified else .probation
              passCount := 1
              disqualification := min 255 (e.disqualification + 1)
              stored := some r
              stale := false
              deadline := some (max s.clock moment + 2000 * r.shape.period)
              marker := false
              verdict := if e.marker then some .undetermined else e.verdict })

/-- A report with any field outside its range or its codes is refused: the frame is counted good and nothing else
changes (R50, R192). -/
def Obligations.ReportRefused : Prop :=
  ∀ (s : State) (moment : Nat) (station : BitVec 6)
    (sq gr we po pe mo fl v1 v0 t1 t0 w1 w0 st lv cc : Byte), s.Open → 1 ≤ station.toNat → station.toNat ≤ 40 →
    station.toNat ≠ s.own →
    s.NotOwnFrame (contention 2 station) [sq, gr, we, po, pe, mo, fl, v1, v0, t1, t0, w1, w0, st, lv, cc] →
    (15 < gr.toNat ∨ we = 0 ∨ 40 < po.toNat ∨ pe.toNat < 5 ∨ 100 < pe.toNat ∨ mo = 0 ∨ 3 < mo.toNat
      ∨ (fl.getLsbD 2 = true ∧ fl.getLsbD 3 = true) ∨ 40000 < (v1 ++ v0).toNat ∨ (t1 ++ t0).toInt < -30000
      ∨ 30000 < (t1 ++ t0).toInt ∨ (w1 ++ w0).toInt < -2000 ∨ 2000 < (w1 ++ w0).toInt ∨ 31 < st.toNat
      ∨ (lv ≠ 0 ∧ lv ≠ 1 ∧ lv ≠ 0xFF)) →
      exec (.reportArrival moment station [sq, gr, we, po, pe, mo, fl, v1, v0, t1, t0, w1, w0, st, lv, cc]) s
        = .next (s.heard moment)

/-- A report that is the first of a peer's test, whether it starts, continues or breaks the run, sets the marker and
zeroes the tallies; if its level is not 0 it is also a transition: it arms an EMPTY slot with the coupling window, and
is missed while the slot holds another peer or the node is in TEST. A break is told first: PEER_UNSTEADY, here WARN
class, where the entry was QUALIFIED, and a test followed till then abandoned. A verdict still waiting on the final mark
is given first, from the tallies as they stand, the observation discarded, COUPLING_MISMATCH, here WARN class, sent
where it contradicts the groups. Nothing else changes (R51 to R56, R63, R64, R145, R147, R148, R152 to R155). The
model's own choice in it: moments are in µs and the clock is the latest one heard (log entry 3). -/
def Obligations.PeerTestBegins : Prop :=
  ∀ (s : State) (moment : Nat) (station : BitVec 6) (r old : Report), s.Open → 1 ≤ station.toNat →
    station.toNat ≤ 40 → station.toNat ≠ s.own → r.inRange = true →
    s.NotOwnFrame (contention 2 station) (composeReport r) → (s.peer station.toNat).stored = some old →
    old.contents.mode ≠ .test → r.contents.mode = .test → s.fault.warns .peerUnsteady →
    s.fault.warns .couplingMismatch →
    (∀ sign n, s.observation ≠ .pending station.toNat sign n) →
    (∀ sign base n succ final, s.observation = .counting station.toNat sign base n succ final →
      final = true ∧ (s.peer station.toNat).marker = true) →
      let k := station.toNat
      let e := s.peer k
      let waiting := s.observation.peer? = some k
      let taken := e.heardAt s.image.passThreshold (max s.clock moment) r
      let judged :=
        if e.broken r then taken.unfollowed else if waiting then taken.concluded else taken
      let told :=
        if e.broken r = true ∧ e.state = .qualified then s.fault.warned .peerUnsteady k s.control.evaluations
        else s.fault
      let slot := if waiting then .empty else s.observation
      let free := slot = .empty ∧ s.control.mode ≠ .test
      exec (.reportArrival moment station (composeReport r)) s = .next
        (State.setPeer
          { s.heard moment with
            fault :=
              if e.broken r = false ∧ waiting ∧ s.Disagrees judged then
                told.warned .couplingMismatch k s.control.evaluations
              else told
            observation :=
              if free then
                match r.contents.testLevel with
                | .plus => .pending k .up s.handler.tuning.couplingWindow
                | .minus => .pending k .down s.handler.tuning.couplingWindow
                | .zero => .empty
              else slot }
          k
          { judged with
            marker := true, seen := 0, contrary := 0, quiet := 0
            missed := if r.contents.testLevel ≠ .zero ∧ ¬free then 1 else 0 })

/-- A continuing report of a followed test, the entry in PROBATION or QUALIFIED, whose level differs from the last is a
transition: it arms an EMPTY slot, is missed in TEST or while the slot holds another peer, replaces a PENDING
observation of the same peer with a miss, and becomes the successor of a COUNTING one, an earlier successor being
missed. Nothing else changes (R146 to R149). The model's own choice in it: moments are in µs and the clock is the latest
one heard (log entry 3). -/
def Obligations.PeerTestTransition : Prop :=
  ∀ (s : State) (moment : Nat) (station : BitVec 6) (r old : Report) (sign : Sign), s.Open → 1 ≤ station.toNat →
    station.toNat ≤ 40 → station.toNat ≠ s.own → r.inRange = true →
    s.NotOwnFrame (contention 2 station) (composeReport r) → (s.peer station.toNat).state ≠ .absent →
    (s.peer station.toNat).passCount ≠ 0 → (s.peer station.toNat).stored = some old →
    r.sequence = old.sequence + 1 → r.shape = old.shape → old.contents.mode = .test → r.contents.mode = .test →
    (s.peer station.toNat).marker = true →
    (match sign with
      | .up => old.contents.testLevel.toInt < r.contents.testLevel.toInt
      | .down => r.contents.testLevel.toInt < old.contents.testLevel.toInt) →
      let k := station.toNat
      let e := (s.peer k).heardAt s.image.passThreshold (max s.clock moment) r
      let armed : Slot := .pending k sign s.handler.tuning.couplingWindow
      let result (slot : Slot) (e' : PeerEntry) : State :=
        State.setPeer { s.heard moment with observation := slot } k e'
      exec (.reportArrival moment station (composeReport r)) s = .next
        (if s.control.mode = .test then result s.observation e.missedOnce
          else match s.observation with
            | .empty => result armed e
            | .pending p g n => if p = k then result armed e.missedOnce else result (.pending p g n) e.missedOnce
            | .counting p g base n succ final =>
              if p = k then
                result (.counting p g base n (some sign) final) (if succ.isSome then e.missedOnce else e)
              else result (.counting p g base n succ final) e.missedOnce)

/-- The first continuing report of a followed peer, in PROBATION or QUALIFIED, that no longer shows TEST ends its test:
over a COUNTING observation of that peer the final mark is set and the verdict waits; a PENDING one is missed; and
otherwise the verdict is given from the tallies at once, the marker cleared, and COUPLING_MISMATCH, here WARN class,
sent where the verdict contradicts the groups (R152 to R154). Nothing else changes. The model's own choice in it:
moments are in µs and the clock is the latest one heard (log entry 3). -/
def Obligations.PeerTestEnds : Prop :=
  ∀ (s : State) (moment : Nat) (station : BitVec 6) (r old : Report), s.Open → 1 ≤ station.toNat →
    station.toNat ≤ 40 → station.toNat ≠ s.own → r.inRange = true →
    s.NotOwnFrame (contention 2 station) (composeReport r) → (s.peer station.toNat).state ≠ .absent →
    (s.peer station.toNat).passCount ≠ 0 → (s.peer station.toNat).stored = some old →
    r.sequence = old.sequence + 1 → r.shape = old.shape → old.contents.mode = .test → r.contents.mode ≠ .test →
    (s.peer station.toNat).marker = true → s.fault.warns .couplingMismatch →
      let k := station.toNat
      let e := (s.peer k).heardAt s.image.passThreshold (max s.clock moment) r
      let verdict (slot : Slot) (e : PeerEntry) : State :=
        State.setPeer
          { s.heard moment with
            observation := slot
            fault :=
              if s.Disagrees e.concluded then s.fault.warned .couplingMismatch k s.control.evaluations else s.fault }
          k e.concluded
      exec (.reportArrival moment station (composeReport r)) s = .next
        (match s.observation with
          | .empty => verdict .empty e
          | .pending p g n => if p = k then verdict .empty e.missedOnce else verdict (.pending p g n) e
          | .counting p g base n succ final =>
            if p = k then State.setPeer { s.heard moment with observation := .counting p g base n succ true } k e
            else verdict (.counting p g base n succ final) e)

/-- At an armed deadline, reached at the moment given, the entry lapses with its stale flag set and its watchdog
disarmed, keeping its stored report and counts; PEER_LOST, here WARN class, is sent where it was QUALIFIED; a followed
test of the peer is abandoned without a tally and its verdict becomes UNDETERMINED. Nothing else changes. A deadline not
reached, a disarmed watchdog, and any in HOLD, does not expire; so where a report falls together with an expiry and is
taken first, the expiry does not happen (R55, R57 to R60, R63, R155). The model's own choice in it: moments are in µs,
and a command that cannot occur changes nothing (log entries 3 and 4). -/
def Obligations.WatchdogLapsesPeer : Prop :=
  (∀ (s : State) (k moment d : Nat), s.control.mode.lineOn = true → (s.peer k).deadline = some d →
     d ≤ max s.clock moment → s.fault.warns .peerLost →
       let e := s.peer k
       exec (.watchdogExpiry { moment := moment, station := k }) s = .next
         (State.setPeer
           { s with
             clock := max s.clock moment
             fault := if e.state = .qualified then s.fault.warned .peerLost k s.control.evaluations else s.fault
             observation := if e.marker = true ∧ s.observation.peer? = some k then .empty else s.observation }
           k
           { e with
             state := .probation, passCount := 0, stale := true, deadline := none, marker := false
             verdict := if e.marker then some .undetermined else e.verdict }))
    ∧ (∀ (s : State) (k moment : Nat),
         (s.control.mode = .hold ∨ ∀ d ∈ (s.peer k).deadline, max s.clock moment < d) →
           exec (.watchdogExpiry { moment := moment, station := k }) s = .next s)
    ∧ (∀ (s t : State) (moment : Nat) (station : BitVec 6) (r : Report), s.Open → 1 ≤ station.toNat →
         station.toNat ≤ 40 → station.toNat ≠ s.own → r.inRange = true →
         s.NotOwnFrame (contention 2 station) (composeReport r) →
         exec (.reportArrival moment station (composeReport r)) s = .next t →
           exec (.watchdogExpiry { moment := moment, station := station.toNat }) t = .next t)

/-! ### Frames on the section line -/

/-- A frame given as its characters is judged as R32 says and does what its own row says: a REPORT what REPORT_ARRIVAL
does, a DIRECTIVE what the row of its kind, and of its READ or TUNE item, does; another node's ANSWER is counted good
and taken no further; the frame that the node itself is sending is not taken; characters that fail the judgement are a
bad frame (R30 to R32, R35, R192). The model's own choice in it: a frame may be judged during an own attempt, and
ill-formed characters in this row are judged bad (log entries 5 and 13). -/
def Obligations.GoodFrameIsRouted : Prop :=
  ∀ (s : State) (moment : Nat) (payload : List Byte),
    (∀ station : BitVec 6, 1 ≤ station.toNat → station.toNat ≤ 40 → payload.length = 16 →
        exec (.goodFrame moment (frameChars (contention 2 station) payload)) s
          = exec (.reportArrival moment station payload) s)
      ∧ (∀ (h : DirectiveHead) (kind : Byte) (args : List Byte), h.moment = moment → 60 ≤ h.terminal.toNat →
          args.length ≤ 15 → payload = h.target :: h.tag :: kind :: args →
            let frame := Instr.goodFrame moment (frameChars (contention 0 h.terminal) payload)
            exec frame s = exec (.unknownKind h kind args) s
              ∧ (kind = 1 → exec frame s = exec (.setMode h args) s)
              ∧ (kind = 2 → exec frame s = exec (.loadPattern h args) s)
              ∧ (kind = 3 → exec frame s = exec (.startTest h args) s)
              ∧ (kind = 4 → exec frame s = exec (.stopTest h args) s)
              ∧ (kind = 5 → exec frame s = exec (.clearFaults h args) s)
              ∧ (∀ item value, kind = 6 → args = item :: value →
                  exec frame s = exec (.tune h item value) s
                    ∧ (item = 10 → exec frame s = exec (.tuneGatePin h value) s)
                    ∧ (item = 11 → exec frame s = exec (.tuneDetectMask h value) s)
                    ∧ (item = 12 → exec frame s = exec (.tuneSignalMask h value) s))
              ∧ (∀ item index, kind = 7 → args = item :: index →
                  (item = 1 → exec frame s = exec (.readNode h index) s)
                    ∧ (item = 2 → exec frame s = exec (.readPeer h index) s)
                    ∧ (item = 3 → exec frame s = exec (.readPeerNext h index) s)
                    ∧ (item = 4 → exec frame s = exec (.readFaults h index) s)
                    ∧ (item = 5 → exec frame s = exec (.readCounts h index) s)
                    ∧ (item = 6 → exec frame s = exec (.readFirstTrip h index) s)
                    ∧ (item = 7 → exec frame s = exec (.readFirstWarn h index) s)
                    ∧ (item = 8 → exec frame s = exec (.readPattern h index) s)
                    ∧ (item = 9 → exec frame s = exec (.readVerdict h index) s)
                    ∧ (item = 10 → exec frame s = exec (.readTuning h index) s)
                    ∧ (item = 11 → exec frame s = exec (.readSnapshot h index) s))
              ∧ (kind = 8 → exec frame s = exec (.snapshot h args) s)
              ∧ (kind = 9 → exec frame s = exec (.reset h args) s))
      ∧ (∀ station : BitVec 6, 1 ≤ station.toNat → station.toNat ≤ 40 → station.toNat ≠ s.own → s.Open →
          3 ≤ payload.length → payload.length ≤ 40 → s.NotOwnFrame (contention 1 station) payload →
            exec (.goodFrame moment (frameChars (contention 1 station) payload)) s = .next (s.heard moment))
      ∧ (∀ (cls : BitVec 2) (station : BitVec 6), cls = 1 ∨ cls = 2 → 1 ≤ station.toNat → station.toNat ≤ 40 →
          lengthOk (contention cls station) payload.length = true →
          ¬s.NotOwnFrame (contention cls station) payload →
            exec (.goodFrame moment (frameChars (contention cls station) payload)) s = .next s)
      ∧ (∀ chars : List Byte, judgeFrame chars = none → exec (.goodFrame moment chars) s = exec .badFrame s)

/-- A good REPORT or ANSWER carrying the own station, and a payload bit lost while sending, are the identity clash: the
node goes to HOLD with TRIP's record filled, source own station or 0, the line stopped, the slot emptied, an attempt
abandoned, a at 0, and from TRIM or TEST y, u and x at 0 too and a test ABORTED; the answer queue stays (R36, R39, R97,
R110, R111, R165). Nothing else changes. The model's own choice in it: PAYLOAD_BIT_LOSS is taken whatever the
transmitter's state, in CONTENDING too, where R38 speaks of a lost contention (log entry 7), a frame may be judged
during an own attempt (log entry 5), and the transmitter and the refill mark in HOLD (log entries 6 and 19). -/
def Obligations.ClashLeadsToHold : Prop :=
  ∀ (s : State) (moment : Nat) (payload : List Byte), s.AuthorityOk → s.LineOk → s.fault.trips .idClash →
    1 ≤ s.own → s.own ≤ 40 →
    let clashed (s : State) (source : Nat) : State :=
      { s with
        control := { s.control with mode := .hold, authority := 0, trim := 0 }
        balance := { s.balance with integrator := 0, saturationRun := 0, shareRun := 0, groupShort := false }
        drive := { s.drive with posted := false }
        line :=
          { s.line with rx := .stopped, tx := .idle, attempt := none, reportDue := false, refill := false }
        excitation :=
          if s.control.mode = .test then
            { s.excitation with
              running := false, offset := 0, sentStep := 0, sentLevel := .zero
              verdict := some
                { outcome := .aborted, count := s.excitation.count, steps := s.excitation.stepIndex,
                  baseline := s.excitation.baseline } }
          else s.excitation
        fault := s.fault.tripped
          { kind := .idClash, source := source, evaluation := s.control.evaluations, mode := s.control.mode,
            speed := s.tracker.speed, speedValid := s.tracker.valid, torque := s.drive.held,
            integrator := s.balance.integrator, authority := s.control.authority,
            testStep := if s.control.mode = .test then some s.excitation.stepIndex else none, cause := none } }
    (s.Open → payload.length = 16 → s.NotOwnFrame (contention 2 (BitVec.ofNat 6 s.own)) payload →
        exec (.goodFrame moment (frameChars (contention 2 (BitVec.ofNat 6 s.own)) payload)) s
          = .next (clashed (s.heard moment) s.own))
      ∧ (s.Open → 3 ≤ payload.length → payload.length ≤ 40 →
          s.NotOwnFrame (contention 1 (BitVec.ofNat 6 s.own)) payload →
          exec (.goodFrame moment (frameChars (contention 1 (BitVec.ofNat 6 s.own)) payload)) s
            = .next (clashed (s.heard moment) s.own))
      ∧ (s.line.attempt ≠ none → exec .payloadBitLoss s = .next (clashed s 0))

/-- A frame judged bad, and an attempt aborted for a faulty bit, are counted, lengthen the bad-frame run while IN_STEP
and send LINE_CHECK, here WARN class, or detect-masked and then dropped; the receiver returns to WAIT_IDLE. The aborted
frame keeps its place, the transmitter deferring exactly while something is left to send. Here the run does not reach K
while IN_STEP (R31, R33, R34, R37, R39, R163). Nothing else changes. The model's own choice in it: the receiver after an aborted attempt, a frame
judged during one, and FAULTY_BIT_ABORT taken in CONTENDING as in SENDING (log entries 5, 6 and 7). -/
def Obligations.BadFrameIsCounted : Prop :=
  ∀ s : State, s.LineOk → (s.fault.warns .lineCheck ∨ (s.fault.masked .lineCheck ∧ s.FaultsOk)) →
    (s.line.step = .inStep → s.line.badRun + 1 ≠ s.image.badThreshold) →
      let judged (tx : TxState) (attempt : Option Attempt) : State :=
        { s with
          line :=
            { s.line with
              rx := .waitIdle, tx := tx, attempt := attempt
              badFrames := min 65535 (s.line.badFrames + 1)
              badRun := if s.line.step = .inStep then s.line.badRun + 1 else s.line.badRun }
          fault :=
            if s.fault.masked .lineCheck then s.fault else s.fault.warned .lineCheck 0 s.control.evaluations }
      (s.Open → exec .badFrame s = .next (judged s.line.tx s.line.attempt))
        ∧ (s.line.attempt ≠ none →
            exec .faultyBitAbort s = .next
              (judged (if s.handler.queue ≠ [] ∨ s.line.reportDue = true then .deferring else .idle) none))

/-- A bad frame, or an attempt aborted for a faulty bit, that brings the run to K takes the receiver OUT_OF_STEP:
LINE_STEP and LINE_CHECK are taken as one set, here both WARN class; every entry that is not ABSENT lapses with its
stale flag set and its watchdog disarmed; every followed test is abandoned, and with it the observation in the slot
(R34, R39, R61, R63, R155, R164, R167). Nothing else changes. The model's own choice in it: the receiver after an
aborted attempt, a frame judged during one, and FAULTY_BIT_ABORT taken in CONTENDING as in SENDING (log entries 5, 6 and
7). -/
def Obligations.LossOfStep : Prop :=
  ∀ s : State, s.control.mode.lineOn = true → s.line.step = .inStep → s.line.badRun + 1 = s.image.badThreshold →
    s.fault.warns .lineStep → s.fault.warns .lineCheck →
    (∀ k ∈ s.observation.peer?, (s.peer k).marker = true ∧ (s.peer k).state ≠ .absent) →
      let lost (tx : TxState) (attempt : Option Attempt) : State :=
        { s with
          line :=
            { s.line with
              rx := .waitIdle, step := .outOfStep, badRun := s.image.badThreshold, tx := tx, attempt := attempt
              badFrames := min 65535 (s.line.badFrames + 1) }
          fault :=
            { (s.fault.raised .lineStep).raised .lineCheck with
              firstWarn := match s.fault.firstWarn with
                | .locked c => .locked c
                | _ => .locked { kind := .lineStep, source := 0, evaluation := s.control.evaluations }
              multipleWarn := true }
          peers := s.peers.map fun e =>
            if e.state = .absent then e
            else
              { e with
                state := .probation, passCount := 0, stale := true, deadline := none, marker := false
                verdict := if e.marker then some .undetermined else e.verdict }
          observation := .empty }
      (s.Open → exec .badFrame s = .next (lost s.line.tx s.line.attempt))
        ∧ (s.line.attempt ≠ none →
            exec .faultyBitAbort s = .next
              (lost (if s.handler.queue ≠ [] ∨ s.line.reportDue = true then .deferring else .idle) none))

/-- On the twelfth recessive bit time the receiver passes from WAIT_IDLE to READY. On the idle line an attempt begins
with the head answer, or with the pending report where the queue is empty, its contents read then and the next
sequence number written in; the refill mark is cleared; with nothing to send nothing happens. Nothing else changes
(R27, R30, R31, R37, R40, R42 to R44, R136, R192). The model's own choice in it: the receiver during an own attempt (log
entry 6). -/
def Obligations.LineIdleAndAttempt : Prop :=
  (∀ s : State, s.control.mode.lineOn = true → s.line.rx = .waitIdle → s.line.attempt = none →
     exec .lineIdle s = .next { s with line := { s.line with rx := .ready } })
    ∧ (∀ s : State, s.control.mode.lineOn = true → s.line.rx = .ready → s.line.attempt = none →
         let begun (source : Source) (frame : List Byte) : State :=
           { s with line :=
               { s.line with
                 attempt := some { source := source, frame := frame }, tx := .contending, rx := .receiving,
                 refill := false } }
         let station := BitVec.ofNat 6 s.own
         let outcome (o : AnswerOutcome) : Byte := match o with
           | .done => 0
           | .clamped => 1
           | .wrongMode => 2
           | .badValue => 3
           | .faultPending => 4
           | .unknown => 5
         let testing := s.excitation.running
         (∀ a rest, s.handler.queue = a :: rest →
             exec .attempt s = .next
               (begun .answer
               (frameChars (0x40 ||| station.zeroExtend 8) ([a.terminal, a.tag, outcome a.outcome] ++ a.data))))
           ∧ (s.handler.queue = [] → s.line.reportDue = true →
               exec .attempt s = .next
                 (begun .report (frameChars (0x80 ||| station.zeroExtend 8)
                   (composeReport
                     { sequence := s.line.sequence
                       shape :=
                         { group := s.image.group, weight := s.image.weight, position := s.image.position,
                           period := s.image.period }
                       contents :=
                         { mode :=
                           if s.control.mode.isTrim then .trim
                           else if s.control.mode = .test then .test else .report
                           speedValid := decide (s.tracker.state = .locked)
                           torqueStale := decide (s.drive.staleRun ≠ 0)
                           summary :=
                             if s.fault.status &&& s.fault.classMap ≠ 0 then .trip
                             else if s.fault.status ≠ 0 then .warn else .none
                           testRunning := testing
                           speed := s.tracker.speed
                           torque := s.drive.held
                           trim := s.drive.lastWord
                           testStep := if testing then s.excitation.sentStep else 0
                           testLevel := if testing then s.excitation.sentLevel else .zero
                           countCode := floatEncode s.excitation.count } }))))
           ∧ (s.handler.queue = [] → s.line.reportDue = false → exec .attempt s = .next s))

/-- A lost contention ends the attempt: the receiver takes the winner's frame, and the answer or the report keeps its
place with the sequence number unused. A REPORT sent whole takes the next sequence number, counts as sent, and empties
the slot unless the refill mark is set; an ANSWER sent whole that is not a RESET's leaves the queue; then the receiver
waits for idle and the transmitter defers exactly while something is left to send. Nothing else changes (R37, R38,
R43, R44). The model's own choice in it: REPORT_SENT and ANSWER_SENT are taken whatever the
transmitter's state, in CONTENDING too (log entry 7), and the receiver after an own attempt (log entry 6). -/
def Obligations.AttemptEnds : Prop :=
  (∀ s : State, s.LineOk → s.line.attempt ≠ none → s.line.tx = .contending →
     exec .contentionLost s = .next
       { s with line :=
           { s.line with
             attempt := none, rx := .receiving
             tx := if s.handler.queue ≠ [] ∨ s.line.reportDue = true then .deferring else .idle } })
    ∧ (∀ (s : State) (f : List Byte), s.control.mode.lineOn = true →
         (s.line.attempt = some { source := .report, frame := f } →
             exec .reportSent s = .next
               { s with line :=
                   { s.line with
                     attempt := none, rx := .waitIdle, sequence := s.line.sequence + 1,
                     reportsSent := s.line.reportsSent + 1, reportDue := s.line.refill
                     tx := if s.handler.queue ≠ [] ∨ s.line.refill = true then .deferring else .idle } })
           ∧ (∀ a rest, s.line.attempt = some { source := .answer, frame := f } → s.handler.queue = a :: rest →
               a.resets = false →
                 exec .answerSent s = .next
                   { s with
                     line :=
                       { s.line with
                         attempt := none, rx := .waitIdle
                         tx := if rest ≠ [] ∨ s.line.reportDue = true then .deferring else .idle }
                     handler := { s.handler with queue := rest } }))

/-! ### SET_MODE -/

/-- SET_MODE rows with no effect: a target code outside the three is BAD_VALUE in every mode; a target that the mode
and phase do not allow is WRONG_MODE; one already reached or under way is DONE; the target TRIM in REPORT is refused by
the first failing condition of R101. The directive and its frame are counted, one answer is queued, and nothing else
changes (R100, R101, R175 to R177). -/
def Obligations.SetModeWithoutEffect : Prop :=
  ∀ (s : State) (h : DirectiveHead) (target : Byte) (rest : List Byte), s.Takes h (1 + rest.length) →
    let answers (o : AnswerOutcome) : Prop :=
      exec (.setMode h (target :: rest)) s = .next ((s.tookDirective h).answered h o [] false)
    (target.toNat = 0 ∨ 3 < target.toNat → answers .badValue)
      ∧ (target = 1 → s.control.mode.hasAuthority = true → answers .wrongMode)
      ∧ (target = 1 → s.control.mode = .listen → answers .done)
      ∧ (target = 2 → s.control.mode = .report ∨ s.control.mode = .trim .fadeOut → answers .done)
      ∧ (target = 2 → s.control.mode = .test → answers .wrongMode)
      ∧ (target = 3 → s.control.mode = .listen ∨ s.control.mode = .test → answers .wrongMode)
      ∧ (target = 3 → s.control.mode = .trim .fadeIn ∨ s.control.mode = .trim .full → answers .done)
      ∧ (target = 3 → s.control.mode = .report →
          if s.tracker.state ≠ .locked then answers .wrongMode
          else if s.drive.ready = false ∨ 1 ≤ s.drive.staleRun then answers .wrongMode
          else if s.image.group = 0 then answers .badValue
          else s.fault.status &&& s.fault.classMap ≠ 0 → answers .faultPending)

/-- SET_MODE with an effect, answered DONE: between LISTEN and REPORT the change clears the engine's runs and flag and
the posting, and entry to LISTEN empties the report slot; entry to TRIM from REPORT with R101's four conditions gives
FADE_IN with a = 0 and y = 0; toward REPORT in FADE_IN or FULL it becomes FADE_OUT with a, u and y kept, or ends TRIM at
once while a is 0; toward TRIM in FADE_OUT it becomes FADE_IN, or FULL where a stands at F, a change of phase releasing
the posting alone. Nothing else changes (R41, R94, R100 to R102, R106, R107). The model's own choice in it: the refill
mark is cleared at entry to LISTEN, where an attempt in progress goes on (log entry 19); and that a change of phase to
FADE_OUT keeps the engine's runs and flag is the model's reading of the numbered rules, against a worked example of
spec/05 (log entry 24). -/
def Obligations.SetModeChangesMode : Prop :=
  ∀ (s : State) (h : DirectiveHead) (rest : List Byte), s.Takes h (1 + rest.length) →
    let t := s.tookDirective h
    let phase (p : Phase) : State :=
      { t with control := { t.control with mode := .trim p }, drive := { t.drive with posted := false } }
    let trimIn := t.inMode (.trim .fadeIn)
    let listen := t.inMode .listen
    (s.control.mode = .listen → exec (.setMode h (2 :: rest)) s = .next ((t.inMode .report).answered h .done [] false))
      ∧ (s.control.mode = .report →
          exec (.setMode h (1 :: rest)) s = .next
            (State.answered { listen with line := { listen.line with reportDue := false, refill := false } } h .done []
              false))
      ∧ (s.control.mode = .report → s.tracker.state = .locked → s.drive.ready = true → s.drive.staleRun = 0 →
        s.image.group ≠ 0 → s.fault.status &&& s.fault.classMap = 0 →
          exec (.setMode h (3 :: rest)) s = .next
            (State.answered { trimIn with control := { trimIn.control with authority := 0, trim := 0 } } h .done []
              false))
      ∧ (s.control.mode = .trim .fadeIn ∨ s.control.mode = .trim .full →
          exec (.setMode h (2 :: rest)) s = .next
            ((if s.control.authority = 0 then t.inMode .report else phase .fadeOut).answered h .done [] false))
      ∧ (s.control.mode = .trim .fadeOut →
          exec (.setMode h (3 :: rest)) s = .next
            ((phase (if s.control.authority = s.image.fadeLength then .full else .fadeIn)).answered h .done [] false))

/-- No command takes a node into TRIM but from REPORT with its speed valid, its drive ready, its torque not stale, a
group other than 0 and no TRIP-class kind set; none takes it into TEST but from REPORT with its speed valid, its torque
not stale, a pattern present and no TRIP-class kind set (R101, R109, R130). Of an evaluation it is said where no late
event is a frame: late events act like their own commands, one after the other. -/
def Obligations.AuthorityNeedsItsConditions : Prop :=
  ∀ (c : Instr) (s t : State), exec c s = .next t →
    (∀ course moment chars, c = .evaluation course → .goodFrame moment chars ∉ course.late) →
      (t.control.mode.isTrim = true → s.control.mode.isTrim = false →
          s.control.mode = .report ∧ s.tracker.state = .locked ∧ s.drive.ready = true ∧ s.drive.staleRun = 0
            ∧ s.image.group ≠ 0 ∧ s.fault.status &&& s.fault.classMap = 0)
        ∧ (t.control.mode = .test → s.control.mode ≠ .test →
            s.control.mode = .report ∧ s.tracker.state = .locked ∧ s.drive.staleRun = 0
              ∧ s.excitation.pattern.isSome = true ∧ s.fault.status &&& s.fault.classMap = 0)

/-! ### Excitation directives -/

/-- LOAD_PATTERN outside TEST with the characters that a pattern in range spells stores that pattern whole, answered
DONE. Whatever its characters: in TEST it is WRONG_MODE before anything is checked, a step count outside 1..32 is
BAD_VALUE, and so is a level code 10 in any step within the count; otherwise the steps within the count give the levels,
two bits each from the highest, 00, 01 and 11 being 0, +1 and −1, the codes beyond them not read, and the hold, the
amplitude and the response tolerance are clamped, answered CLAMPED where one was. Nothing else changes (R126 to R128,
R192, R193). -/
def Obligations.LoadPatternLoads : Prop :=
  (∀ (s : State) (h : DirectiveHead) (p : Pattern), s.Takes h 15 → s.control.mode ≠ .test → p.InRange →
     let t := s.tookDirective h
     exec (.loadPattern h (patternChars p)) s = .next
       (State.answered { t with excitation := { t.excitation with pattern := some p } } h .done [] false))
    ∧ (∀ (s : State) (h : DirectiveHead) (n hold a1 a0 t1 t0 target : Byte) (ls : List Byte), ls.length = 8 →
         s.Takes h 15 →
         let t := s.tookDirective h
         let command := Instr.loadPattern h (n :: ls ++ [hold, a1, a0, t1, t0, target])
         let refused (o : AnswerOutcome) : Prop := exec command s = .next (t.answered h o [] false)
         let code (i : Nat) : Nat := (ls.getD (i / 4) 0).toNat / 4 ^ (3 - i % 4) % 4
         (s.control.mode = .test → refused .wrongMode)
           ∧ (s.control.mode ≠ .test →
               (n.toNat = 0 ∨ 32 < n.toNat → refused .badValue)
                 ∧ (∀ i < n.toNat, n.toNat ≤ 32 → code i = 2 → refused .badValue)
                 ∧ (1 ≤ n.toNat → n.toNat ≤ 32 → (∀ i < n.toNat, code i ≠ 2) →
                     let p : Pattern :=
                       { levels := (List.range n.toNat).map fun i =>
                           if code i = 0 then .zero else if code i = 1 then .plus else .minus
                         hold := max 1 hold.toNat, amplitude := max 1 (min 500 (a1 ++ a0).toNat),
                         tolerance := max 1 (min 1000 (t1 ++ t0).toNat), target := target }
                     let kept := p.hold = hold.toNat ∧ p.amplitude = (a1 ++ a0).toNat ∧ p.tolerance = (t1 ++ t0).toNat
                     exec command s = .next
                       (State.answered { t with excitation := { t.excitation with pattern := some p } } h
                         (if kept then .done else .clamped) [] false))))

/-- START_TEST with its five conditions holding is answered DONE and starts the test at once: the baseline latched, the
count 0, the limit notice clear, step and position 0, nothing sent, RUNNING in TEST, the engine's runs clear, the
posting released; an observation in the slot is discarded as missed, a successor too, and one with the final mark gives
its verdict, with COUPLING_MISMATCH, here WARN class, where it contradicts the groups. Else the first failing condition,
in order, gives the refusal. Nothing else changes (R94, R109, R130, R131, R136, R153, R154, R156, R176). The model's own
choice in it: the mode is TEST before the verdict and its notice are given, so in TRIP class that notice aborts the new
test (log entry 26); and the last reference word becomes 0, which R136 implies and R131 does not list (log entry 27). -/
def Obligations.StartTestStartsOrRefuses : Prop :=
  (∀ (s : State) (h : DirectiveHead) (rest : List Byte), s.Takes h rest.length → s.control.mode = .report →
     s.tracker.state = .locked → s.drive.staleRun = 0 → s.excitation.pattern.isSome = true →
     s.fault.status &&& s.fault.classMap = 0 → (∀ k ∈ s.observation.peer?, k ∈ stations) →
       let t := (s.tookDirective h).inMode .test
       let started : State :=
         { t with
           observation := .empty
           excitation :=
             { t.excitation with
               baseline := s.tracker.speed, count := 0, limitPosted := false, stepIndex := 0, position := 0,
               offset := 0, sentStep := 0, sentLevel := .zero, running := true }
           drive := { t.drive with lastWord := 0 } }
       let missed (p : Nat) (successor : Option Sign) : PeerEntry :=
         if successor.isSome then (s.peer p).missedOnce.missedOnce else (s.peer p).missedOnce
       let answers (u : State) : Prop :=
         exec (.startTest h rest) s = .next (State.answered u h .done [] false)
       match s.observation with
       | .empty => answers started
       | .pending p _ _ => answers (started.setPeer p (s.peer p).missedOnce)
       | .counting p _ _ _ successor false => answers (started.setPeer p (missed p successor))
       | .counting p _ _ _ successor true =>
         let judged := (missed p successor).concluded
         let verdict := started.setPeer p judged
         (¬s.Disagrees judged → answers verdict)
           ∧ (s.Disagrees judged → s.fault.warns .couplingMismatch →
               answers { verdict with fault := s.fault.warned .couplingMismatch p s.control.evaluations })
           ∧ (s.Disagrees judged → s.fault.trips .couplingMismatch →
               ∃ u, exec (.startTest h rest) s = .next u ∧ u.control.mode = .report
                 ∧ u.excitation.running = false ∧ u.observation = .empty ∧ u.peer p = judged
                 ∧ u.excitation.verdict = some
                     { outcome := .aborted, count := 0, steps := 0, baseline := s.tracker.speed }
                 ∧ u.handler.queue.map (fun a => a.outcome) = s.handler.queue.map (fun a => a.outcome) ++ [.done]))
    ∧ (∀ (s : State) (h : DirectiveHead) (rest : List Byte), s.Takes h rest.length →
         let answers (o : AnswerOutcome) : Prop :=
           exec (.startTest h rest) s = .next ((s.tookDirective h).answered h o [] false)
         if s.control.mode ≠ .report ∨ s.tracker.state ≠ .locked ∨ 1 ≤ s.drive.staleRun then answers .wrongMode
         else if s.excitation.pattern = none then answers .badValue
         else s.fault.status &&& s.fault.classMap ≠ 0 → answers .faultPending)

/-- STOP_TEST in TEST ends the test at once, ABORTED with the count and the steps run whole, in REPORT with x and what
was sent at 0, answered DONE; a broadcast does the same with no answer; in any other mode it is WRONG_MODE and changes
nothing (R94, R109, R140, R141, R175). -/
def Obligations.StopTestAborts : Prop :=
  ∀ (s : State) (h : DirectiveHead) (rest : List Byte),
    let stopped (t : State) : State :=
      { t.inMode .report with
        excitation :=
          { t.excitation with
            running := false, offset := 0, sentStep := 0, sentLevel := .zero
            verdict := some
              { outcome := .aborted, count := s.excitation.count, steps := s.excitation.stepIndex,
                baseline := s.excitation.baseline } } }
    let t := s.tookDirective h
    (s.Takes h rest.length → s.control.mode = .test →
        exec (.stopTest h rest) s = .next ((stopped t).answered h .done [] false))
      ∧ (s.Takes h rest.length → s.control.mode ≠ .test →
          exec (.stopTest h rest) s = .next (t.answered h .wrongMode [] false))
      ∧ (s.Open → s.LineOk → 60 ≤ h.terminal.toNat → h.target = 0 → s.own ≠ 0 → rest.length ≤ 15 →
          exec (.stopTest h rest) s = .next (if s.control.mode = .test then stopped t else t))

/-! ### Faults and tuning -/

/-- CLEAR_FAULTS clears the named kinds from the status, releases a LOCKED record that names one of them, keeps the
counts and the multiple flags, moves the lines at once and is answered DONE. Nothing else changes (R169, R171). -/
def Obligations.ClearFaultsClears : Prop :=
  ∀ (s : State) (h : DirectiveHead) (hi lo : Byte) (rest : List Byte), s.Takes h (2 + rest.length) →
    let kinds : KindSet := hi ++ lo
    let t := s.tookDirective h
    let status := s.fault.status &&& ~~~kinds
    exec (.clearFaults h (hi :: lo :: rest)) s = .next
      (State.answered
        { t with fault :=
          { t.fault with
            status := status
            firstTrip := match s.fault.firstTrip with
              | .locked c => if kinds.getLsbD (c.kind.number - 1) then .released c else .locked c
              | r => r
            firstWarn := match s.fault.firstWarn with
              | .locked c => if kinds.getLsbD (c.kind.number - 1) then .released c else .locked c
              | r => r
            tripLine := decide (status &&& s.fault.classMap &&& ~~~s.fault.signalMask ≠ 0)
            warnLine := decide (status &&& ~~~s.fault.classMap &&& ~~~s.fault.signalMask ≠ 0) } }
        h .done [] false)

/-- TUNE of a numeric item in LISTEN or REPORT replaces that one tuning value with the signed value clamped to its
range, answered CLAMPED where it was clamped and DONE otherwise; of an item that is none of the twelve it is
BAD_VALUE. TUNE of GATE_PIN sets the requested pin: −1 is none, 0..7 a rung, any other value the nearer rung and
CLAMPED. In TRIM and TEST both are WRONG_MODE before anything is checked. Nothing else changes (R11, R179, R180,
R192). -/
def Obligations.TuneSetsOneValue : Prop :=
  (∀ (s : State) (h : DirectiveHead) (item hi lo : Byte) (rest : List Byte), s.Takes h (3 + rest.length) →
     let v := (hi ++ lo).toInt
     let t := s.tookDirective h
     let refused (o : AnswerOutcome) : Prop :=
      exec (.tune h item (hi :: lo :: rest)) s = .next (t.answered h o [] false)
     let sets (least most : Int) (tuning : Int → Tuning) : Prop :=
       exec (.tune h item (hi :: lo :: rest)) s = .next
         (State.answered { t with handler := { t.handler with tuning := tuning (max least (min most v)) } } h
           (if least ≤ v ∧ v ≤ most then .done else .clamped) [] false)
     let old := s.handler.tuning
     (s.control.mode.hasAuthority = true → refused .wrongMode)
       ∧ (s.control.mode.hasAuthority = false →
           (item.toNat = 0 ∨ 12 < item.toNat → refused .badValue)
             ∧ (item = 1 → sets 0 4095 fun x => { old with shareGain := x.toNat })
             ∧ (item = 2 → sets 0 1000 fun x => { old with deadband := x.toNat })
             ∧ (item = 3 → sets 1 500 fun x => { old with rateLimit := x.toNat })
             ∧ (item = 4 → sets 0 2000 fun x => { old with trimLimit := x.toNat })
             ∧ (item = 5 → sets 10 3000 fun x => { old with shareTolerance := x.toNat })
             ∧ (item = 6 → sets (-200) 500 fun x => { old with drawSetpoint := x })
             ∧ (item = 7 → sets 1 500 fun x => { old with drawTolerance := x.toNat })
             ∧ (item = 8 → sets 2 32 fun x => { old with couplingWindow := x.toNat })
             ∧ (item = 9 → sets 10 5000 fun x => { old with couplingThreshold := x.toNat })))
    ∧ (∀ (s : State) (h : DirectiveHead) (hi lo : Byte) (rest : List Byte), s.Takes h (3 + rest.length) →
         let v := (hi ++ lo).toInt
         let t := s.tookDirective h
         exec (.tuneGatePin h (hi :: lo :: rest)) s = .next
           (if s.control.mode.hasAuthority = true then t.answered h .wrongMode [] false
             else
               State.answered
                 { t with tracker :=
                   { t.tracker with
                     requested := if v = -1 then none else if v < 0 then some 0 else some (min 7 v.toNat) } }
                 h (if -1 ≤ v ∧ v ≤ 7 then .done else .clamped) [] false))

/-- TUNE of a mask in LISTEN or REPORT: a kind 3..16 with 0 or 1 clears or sets its mask, answered DONE, the lines
following at once; setting the detect mask of a kind also clears its status and releases a LOCKED record that names it
where the status was set. Another kind or value is BAD_VALUE, and in TRIM and TEST it is WRONG_MODE; refused, it changes
nothing (R162, R169, R179, R180). -/
def Obligations.TuneSetsMasks : Prop :=
  ∀ (s : State) (h : DirectiveHead) (kind value : Byte) (rest : List Byte), s.FaultsOk → s.Takes h (3 + rest.length) →
    let t := s.tookDirective h
    let one : KindSet := 1 <<< (kind.toNat - 1)
    let refused (o : AnswerOutcome) : Prop :=
      exec (.tuneDetectMask h (kind :: value :: rest)) s = .next (t.answered h o [] false)
        ∧ exec (.tuneSignalMask h (kind :: value :: rest)) s = .next (t.answered h o [] false)
    let lines (f : FaultUnit) : FaultUnit :=
      { f with
        tripLine := decide (f.status &&& f.classMap &&& ~~~f.signalMask ≠ 0)
        warnLine := decide (f.status &&& ~~~f.classMap &&& ~~~f.signalMask ≠ 0) }
    let wasSet := s.fault.status.getLsbD (kind.toNat - 1) = true
    (s.control.mode.hasAuthority = true → refused .wrongMode)
      ∧ (s.control.mode.hasAuthority = false →
          (kind.toNat < 3 ∨ 16 < kind.toNat ∨ 1 < value.toNat → refused .badValue)
            ∧ (3 ≤ kind.toNat → kind.toNat ≤ 16 → value.toNat ≤ 1 →
                exec (.tuneSignalMask h (kind :: value :: rest)) s = .next
                    (State.answered
                      { t with fault := lines ({ s.fault with
                          signalMask :=
                            if value = 1 then s.fault.signalMask ||| one else s.fault.signalMask &&& ~~~one }) }
                      h .done [] false)
                  ∧ exec (.tuneDetectMask h (kind :: value :: rest)) s = .next
                    (State.answered
                      { t with fault := lines ({ s.fault with
                          detectMask :=
                            if value = 1 then s.fault.detectMask ||| one else s.fault.detectMask &&& ~~~one
                          status := if value = 1 then s.fault.status &&& ~~~one else s.fault.status
                          firstTrip := match s.fault.firstTrip with
                            | .locked c =>
                              if value = 1 ∧ wasSet ∧ c.kind.number = kind.toNat then .released c else .locked c
                            | r => r
                          firstWarn := match s.fault.firstWarn with
                            | .locked c =>
                              if value = 1 ∧ wasSet ∧ c.kind.number = kind.toNat then .released c else .locked c
                            | r => r }) }
                      h .done [] false)))

/-! ### READ -/

/-- READ NODE, index 0, returns the node's mode with its phase, a, u, the tracker's state, rung, speed and flag, the
held torque, the stale run, the drive-ready flag, the receive step and bad-frame run as this frame leaves them, and
the start-clamp flag; index 1 the share result and index 2 the draw result, field by field with the fields that do not
apply absent, or the result's own absence; another index is BAD_VALUE. Nothing else changes (R13, R89, R123, R181, R182,
R193). -/
def Obligations.ReadNodeData : Prop :=
  ∀ (s : State) (h : DirectiveHead) (index : Byte) (rest : List Byte), s.Takes h (2 + rest.length) →
    let reads (outcome : AnswerOutcome) (data : List Byte) : Prop :=
      exec (.readNode h (index :: rest)) s = .next ((s.tookDirective h).answered h outcome data false)
    let flag (b : Bool) : Byte := if b then 1 else 0
    let phase : List Byte := match s.control.mode with
      | .trim .fadeIn => [1, 0]
      | .trim .full => [1, 1]
      | .trim .fadeOut => [1, 2]
      | _ => [0]
    let mode : Byte := match s.control.mode with
      | .listen => 0
      | .report => 1
      | .trim _ => 2
      | .test => 3
      | .start => 4
      | .hold => 5
    let tracker : Byte := match s.tracker.state with
      | .standstill => 0
      | .acquire => 1
      | .locked => 2
    let speed : Nat := if s.tracker.state = .standstill then 0 else s.tracker.latest.getD 0
    let share (r : ShareResult) : List Byte := match r.outcome with
      | .unassessed reason =>
        let code : Byte := match reason with
          | .speed => 1
          | .torque => 2
          | .noGroup => 3
          | .inTest => 4
          | .short => 5
        be32 r.evaluation.toNat ++ [0, 1, code, byte r.members] ++ [0, 0, 0, 0, 0, 0] ++ be16s r.step
      | .assessed torque weight target error increment centering =>
        be32 r.evaluation.toNat ++ [1, 0, byte r.members] ++ (1 :: be32s torque) ++ (1 :: be16 weight)
          ++ (1 :: be16s target) ++ (1 :: be32s error) ++ (1 :: be32s increment) ++ (1 :: be16s centering)
          ++ be16s r.step
    let upstream (r : DrawResult) : List Byte :=
      byte r.upstreamCount :: (match r.upstreamSpeed with | none => [0] | some v => 1 :: be16 v)
    let draw (r : DrawResult) : List Byte := match r.outcome with
      | .unassessed reason =>
        let code : Byte := match reason with
          | .position => 1
          | .speed => 2
          | .noUpstream => 3
          | .slow => 4
        be32 r.evaluation.toNat ++ [0, 1, code] ++ upstream r ++ [0, 0, byte r.run]
      | .assessed own achieved =>
        be32 r.evaluation.toNat ++ [1, 0] ++ upstream r ++ (1 :: be16 own) ++ (1 :: be16s achieved) ++ [byte r.run]
    (index = 0 → reads .done
        (mode :: phase ++ [byte s.control.authority] ++ be16s s.balance.integrator ++ [tracker, byte s.tracker.rung]
          ++ be16 speed ++ [flag (decide (s.tracker.state = .locked))] ++ be16s s.drive.held
          ++ [byte s.drive.staleRun, flag s.drive.ready, 0, 0, flag s.startUnit.clamped]))
      ∧ (index = 1 → s.balance.result = none → reads .done [0])
      ∧ (∀ r, index = 1 → s.balance.result = some r → reads .done (1 :: share r))
      ∧ (index = 2 → s.draw.result = none → reads .done [0])
      ∧ (∀ r, index = 2 → s.draw.result = some r → reads .done (1 :: draw r))
      ∧ (3 ≤ index.toNat → reads .badValue [])

/-- READ PEER returns the state alone for an ABSENT entry, and otherwise the entry's counts and flags, its stored
report as REPORT lays it out, the watchdog's remaining milliseconds or its absence, the marker, the tallies and the
verdict or its absence; a station that is no key is BAD_VALUE. READ PEER_NEXT answers with the first key above the
index whose entry is not ABSENT and what READ PEER answers for it, or with the none marker; an index above 40 is
BAD_VALUE (R68, R69, R193). The model's own choice in it: the time remaining is counted from the moment the directive
carries (log entry 3). -/
def Obligations.ReadPeerData : Prop :=
  (∀ (s : State) (h : DirectiveHead) (index : Byte) (rest : List Byte), s.Takes h (2 + rest.length) →
     let k := index.toNat
     let e := s.peer k
     let now := max s.clock h.moment
     let reads (outcome : AnswerOutcome) (data : List Byte) : Prop :=
       exec (.readPeer h (index :: rest)) s = .next ((s.tookDirective h).answered h outcome data false)
     let flag (b : Bool) : Byte := if b then 1 else 0
     let state : Byte := match e.state with
       | .absent => 0
       | .probation => 1
       | .qualified => 2
     let verdict : List Byte := match e.verdict with
       | none => [0]
       | some .coupled => [1, 1]
       | some .uncoupled => [1, 2]
       | some .inverted => [1, 3]
       | some .undetermined => [1, 4]
     let watchdog : List Byte := match e.deadline with
       | none => [0]
       | some d => [1, byte ((d - now) / 1000)]
     (k = 0 ∨ 40 < k ∨ k = s.own → reads .badValue [])
       ∧ (1 ≤ k → k ≤ 40 → k ≠ s.own → e.state = .absent → reads .done [0])
       ∧ (∀ r, 1 ≤ k → k ≤ 40 → k ≠ s.own → e.state ≠ .absent → e.stored = some r →
           reads .done
             ([state, byte e.passCount, byte e.disqualification, flag e.stale] ++ composeReport r ++ watchdog
               ++ [flag e.marker, byte e.seen, byte e.contrary, byte e.quiet, byte e.missed] ++ verdict)))
    ∧ (∀ (s : State) (h : DirectiveHead) (index : Byte) (rest : List Byte), s.Takes h (2 + rest.length) →
         let reads (outcome : AnswerOutcome) (data : List Byte) : Prop :=
           exec (.readPeerNext h (index :: rest)) s = .next ((s.tookDirective h).answered h outcome data false)
         let heardFrom (j : Nat) : Prop := index.toNat < j ∧ j ≤ 40 ∧ j ≠ s.own ∧ (s.peer j).state ≠ .absent
         (40 < index.toNat → reads .badValue [])
           ∧ (index.toNat ≤ 40 → (∀ j, ¬heardFrom j) → reads .done [0])
           ∧ (∀ (k : Byte) (data : List Byte), index.toNat ≤ 40 → heardFrom k.toNat → (∀ j, heardFrom j → k.toNat ≤ j) →
               exec (.readPeer h (k :: rest)) s = .next ((s.tookDirective h).answered h .done data false) →
                 reads .done (k :: data)))

/-- READ FAULTS returns the status, class map and masks; COUNTS a kind's count, BAD_VALUE outside 1..16; FIRST_TRIP and
FIRST_WARN the record's state and fields, BAD_VALUE while EMPTY; PATTERN, VERDICT and SNAPSHOT the pattern, the verdict
record and the snapshot, BAD_VALUE while absent; TUNING the tuning values in force with the pin in force; all laid out
as R193 gives them. Nothing else changes (R143, R173, R181 to R183, R193). -/
def Obligations.ReadRecordedData : Prop :=
  (∀ (s : State) (h : DirectiveHead) (index : Byte) (rest : List Byte), s.Takes h (2 + rest.length) →
     let answers (outcome : AnswerOutcome) (data : List Byte) : State :=
       (s.tookDirective h).answered h outcome data false
     let flag (b : Bool) : Byte := if b then 1 else 0
     let trip (state : Byte) (c : TripContents) : List Byte :=
       [state, byte c.kind.number, byte c.source] ++ be32 c.evaluation.toNat
         ++ (match c.mode with
           | .listen => [0, 0]
           | .report => [1, 0]
           | .trim .fadeIn => [2, 1, 0]
           | .trim .full => [2, 1, 1]
           | .trim .fadeOut => [2, 1, 2]
           | .test => [3, 0]
           | .start => [4, 0]
           | .hold => [5, 0])
         ++ be16 c.speed ++ [flag c.speedValid] ++ be16s c.torque ++ be16s c.integrator ++ [byte c.authority]
         ++ (match c.testStep with | none => [0] | some n => [1, byte n])
         ++ (match c.cause with | none => [0] | some .stale => [1, 1] | some .notReady => [1, 2])
         ++ [flag s.fault.multipleTrip]
     let warn (state : Byte) (c : WarnContents) : List Byte :=
       [state, byte c.kind.number, byte c.source] ++ be32 c.evaluation.toNat ++ [flag s.fault.multipleWarn]
     exec (.readFaults h (index :: rest)) s = .next (answers .done
         (be16 s.fault.status.toNat ++ be16 s.fault.classMap.toNat ++ be16 s.fault.detectMask.toNat
           ++ be16 s.fault.signalMask.toNat))
       ∧ (∀ n : Fin 16, index.toNat = n.val + 1 →
           exec (.readCounts h (index :: rest)) s = .next (answers .done [byte s.fault.counts[n]]))
       ∧ (index.toNat = 0 ∨ 16 < index.toNat → exec (.readCounts h (index :: rest)) s = .next (answers .badValue []))
       ∧ exec (.readFirstTrip h (index :: rest)) s = .next
           (match s.fault.firstTrip with
             | .empty => answers .badValue []
             | .locked c => answers .done (trip 1 c)
             | .released c => answers .done (trip 2 c))
       ∧ exec (.readFirstWarn h (index :: rest)) s = .next
           (match s.fault.firstWarn with
             | .empty => answers .badValue []
             | .locked c => answers .done (warn 1 c)
             | .released c => answers .done (warn 2 c)))
    ∧ (∀ (s : State) (h : DirectiveHead) (index : Byte) (rest : List Byte), s.Takes h (2 + rest.length) →
         let answers (outcome : AnswerOutcome) (data : List Byte) : State :=
           (s.tookDirective h).answered h outcome data false
         let u := s.handler.tuning
         exec (.readPattern h (index :: rest)) s = .next
             (match s.excitation.pattern with
               | none => answers .badValue []
               | some p => answers .done (patternChars p))
           ∧ exec (.readVerdict h (index :: rest)) s = .next
             (match s.excitation.verdict with
               | none => answers .badValue []
               | some v => answers .done
                 ((match v.outcome with | .pass => [1] | .fail => [2] | .aborted => [3]) ++ be16 v.count
                   ++ [byte v.steps]
                   ++ be16 v.baseline))
           ∧ exec (.readTuning h (index :: rest)) s = .next
             (answers .done
               (be16 u.shareGain ++ be16 u.deadband ++ be16 u.rateLimit ++ be16 u.trimLimit ++ be16 u.shareTolerance
                 ++ be16s u.drawSetpoint ++ be16 u.drawTolerance ++ [byte u.couplingWindow] ++ be16 u.couplingThreshold
                 ++ (match s.tracker.pin with | none => [0] | some p => [1, byte p])))
           ∧ exec (.readSnapshot h (index :: rest)) s = .next
             (match s.handler.snapshot with
               | none => answers .badValue []
               | some c => answers .done
                 (be32 c.evaluations.toNat ++ be32 c.reportsSent.toNat ++ be32 c.goodFrames.toNat ++ be16 c.badFrames
                   ++ be32 c.torqueTaken.toNat ++ be16 c.torqueDiscarded ++ be16 c.directivesTaken.toNat
                   ++ be16 c.answersDropped ++ be16 c.responseCount)))

/-! ### The other directives -/

/-- SNAPSHOT copies the nine live counters, its own count in directives taken included, answered DONE; a broadcast does
the same with no answer. RESET is answered DONE with an answer whose sending makes the soft reset, and does nothing
else yet; an unknown kind is answered UNKNOWN. Nothing else changes (R175, R176, R183, R184). -/
def Obligations.SnapshotResetUnknown : Prop :=
  ∀ (s : State) (h : DirectiveHead) (kind : Byte) (args : List Byte),
    let t := s.tookDirective h
    let copied : State :=
      { t with handler :=
        { t.handler with
          snapshot := some
            { evaluations := s.control.evaluations, reportsSent := s.line.reportsSent,
              goodFrames := s.line.goodFrames + 1, badFrames := s.line.badFrames, torqueTaken := s.drive.framesTaken,
              torqueDiscarded := s.drive.discards, directivesTaken := s.handler.taken + 1,
              answersDropped := s.handler.dropped, responseCount := s.excitation.count } } }
    (s.Takes h args.length →
        exec (.snapshot h args) s = .next (copied.answered h .done [] false)
          ∧ exec (.reset h args) s = .next (t.answered h .done [] true)
          ∧ (kind = 0 ∨ 10 ≤ kind.toNat → exec (.unknownKind h kind args) s = .next (t.answered h .unknown [] false)))
      ∧ (s.Open → 60 ≤ h.terminal.toNat → h.target = 0 → s.own ≠ 0 → args.length ≤ 15 →
          exec (.snapshot h args) s = .next copied)

/-- A directive for another station, and a broadcast other than STOP_TEST and SNAPSHOT, is ignored: its frame is counted
good and nothing else changes. Too few argument characters are BAD_VALUE. An addressed directive that finds four answers
in the queue is not taken: the answers-dropped counter moves, saturating at 65535, and ANSWER_OVERFLOW, here WARN class,
is sent with the terminal as source. Nothing else changes (R175, R177). -/
def Obligations.DirectiveNotCarriedOut : Prop :=
  (∀ (s : State) (h : DirectiveHead) (kind : Byte) (args : List Byte), s.Open → 60 ≤ h.terminal.toNat →
     args.length ≤ 15 →
       (h.target.toNat ≠ s.own → (h.target ≠ 0 ∨ (kind ≠ 4 ∧ kind ≠ 8)) →
           exec (.unknownKind h kind args) s = .next (s.heard h.moment))
         ∧ (s.Takes h args.length →
             let short := Host.Outcome.next ((s.tookDirective h).answered h .badValue [] false)
             (args.length < 1 → exec (.setMode h args) s = short)
               ∧ (args.length < 15 → exec (.loadPattern h args) s = short)
               ∧ (args.length < 2 → exec (.clearFaults h args) s = short)
               ∧ (∀ item value, args = item :: value → value.length < 2 → exec (.tune h item value) s = short)
               ∧ (args.length < 1 → exec (.readNode h args) s = short)))
    ∧ (∀ (s : State) (h : DirectiveHead) (kind : Byte) (args : List Byte), s.Open → 60 ≤ h.terminal.toNat →
         args.length ≤ 15 → h.target.toNat = s.own → s.handler.queue.length = 4 → s.fault.warns .answerOverflow →
           let t := s.heard h.moment
           let dropped : State :=
             { t with
               handler := { t.handler with dropped := min 65535 (s.handler.dropped + 1) }
               fault := s.fault.warned .answerOverflow h.terminal.toNat s.control.evaluations }
           exec (.unknownKind h kind args) s = .next dropped ∧ exec (.setMode h args) s = .next dropped
             ∧ exec (.startTest h args) s = .next dropped ∧ exec (.reset h args) s = .next dropped)

/-! ### Encodings and arithmetic -/

/-- A report in range is read back whole from the payload that carries it. A frame of an allowed contention field and
payload length is judged good and read back, whatever its payload; with another check word or another delimiter it is
judged bad. A frame of class 3, of a station outside its class's range, of a payload length that does not fit its class,
or whose length character is not its payload's length is judged bad, its check word and delimiters notwithstanding (R30,
R32, R50, R192). -/
def Obligations.ReportAndFrameRoundTrip : Prop :=
  (∀ r : Report, r.inRange = true → (composeReport r).length = 16 ∧ parseReport (composeReport r) = some r)
    ∧ (∀ (c : Byte) (payload : List Byte), contentionOk c = true → lengthOk c payload.length = true →
         judgeFrame (frameChars c payload) = some (c, payload)
           ∧ (frameChars c payload).length = payload.length + 6
           ∧ ∀ start hi lo stop : Byte,
               (start ≠ 0x5A ∨ stop ≠ 0xA5 ∨ hi ++ lo ≠ crc (c :: byte payload.length :: payload)) →
                 judgeFrame (start :: c :: byte payload.length :: payload ++ [hi, lo, stop]) = none)
    ∧ (∀ (c : Byte) (payload : List Byte),
         let cls := c.toNat / 64
         let station := c.toNat % 64
         let n := payload.length
         (cls = 3 ∨ (cls = 0 ∧ station < 60) ∨ ((cls = 1 ∨ cls = 2) ∧ (station = 0 ∨ 40 < station))
           ∨ (cls = 0 ∧ (n < 3 ∨ 18 < n)) ∨ (cls = 1 ∧ (n < 3 ∨ 40 < n)) ∨ (cls = 2 ∧ n ≠ 16)) →
           judgeFrame (frameChars c payload) = none)
    ∧ (∀ (c len hi lo : Byte) (payload : List Byte), len.toNat ≠ payload.length →
         judgeFrame (0x5A :: c :: len :: payload ++ [hi, lo, 0xA5]) = none)

/-- A float code's value is its mantissa, the high four bits, times two to its exponent, the low four, and at most
491520, for every one of the 256 codes; 0A, A2, 8A and 34 hex decode to 0, 40, 8192 and 48 (R137, R195). -/
def Obligations.FloatCodeDecodes : Prop :=
  (∀ m e : Fin 16, floatDecode (BitVec.ofNat 8 (16 * m.val + e.val)) = m.val * 2 ^ e.val)
    ∧ (∀ code : Byte, floatDecode code ≤ 491520) ∧ floatDecode 0xFF = 491520
    ∧ (∀ e : Fin 16, floatDecode (BitVec.ofNat 8 e.val) = 0)
    ∧ floatDecode 0x40 = 4 ∧ floatDecode 0x21 = 4 ∧ floatDecode 0x12 = 4
    ∧ floatDecode 0x0A = 0 ∧ floatDecode 0xA2 = 40 ∧ floatDecode 0x8A = 8192 ∧ floatDecode 0x34 = 48
    ∧ floatEncode 37 = 0xA2 ∧ floatEncode 8160 = 0x8A

/-- A count up to 15 is its own mantissa, one above 491520 is the largest code, and any other takes the smallest
exponent for which the mantissa, rounded up, is 15 or less; so a count within 491520 never reads back below itself, and
by less than 2^e above it. A count that a code decodes to is encoded exactly, by the code of the smallest exponent; the
response count, at most 8160, never saturates (R137, R138, R195). -/
def Obligations.FloatCodeOfCount : Prop :=
  (∀ c : Nat,
      (c ≤ 15 → floatEncode c = BitVec.ofNat 8 (16 * c))
        ∧ (491520 < c → floatEncode c = 0xFF)
        ∧ (15 < c → c ≤ 491520 → ∃ m e : Fin 16,
            floatEncode c = BitVec.ofNat 8 (16 * m.val + e.val) ∧ m.val = (c + 2 ^ e.val - 1) / 2 ^ e.val
              ∧ ∀ e' < e.val, 15 < (c + 2 ^ e' - 1) / 2 ^ e')
        ∧ (c ≤ 491520 → ∃ m e : Fin 16,
            floatEncode c = BitVec.ofNat 8 (16 * m.val + e.val) ∧ floatDecode (floatEncode c) = m.val * 2 ^ e.val
              ∧ c ≤ m.val * 2 ^ e.val ∧ m.val * 2 ^ e.val < c + 2 ^ e.val))
    ∧ (∀ m e : Fin 16, ∃ n f : Fin 16, floatEncode (m.val * 2 ^ e.val) = BitVec.ofNat 8 (16 * n.val + f.val)
        ∧ n.val * 2 ^ f.val = m.val * 2 ^ e.val ∧ f.val ≤ e.val)

/-! ### Soundness -/

/-- The node is sound after a hardware reset: every block at its reset value stands within its laws (R16, R28, R46, R70,
R92, R96, R114, R125, R144, R159, R174, R185). The model's own choice in it: the settings and tuning values with no
start image, the class map and masks, and the start-clamp flag before the start check (log entries 8, 9 and 28). -/
def Obligations.ResetIsSound : Prop := State.reset.Sound

/-- Every step of a sound node leaves the settings in range, START as it is, and the tracker and the drive link within
their laws (R2, R5 to R12, R18 to R22, R96, R187, R188). The model's own choice in it: the settings with no start image
(log entry 8), how a pin meets the tracker's rules and the ceiling rung (log entries 10 and 11), what is held of the
REFERENCE output in START (log entry 14), where START stands (log entry 21), and the start-clamp flag before the start
check (log entry 28). -/
def Obligations.StepKeepsMeasurement : Prop :=
  ∀ s t : State, s.Sound → step s = .next t → t.SettingsOk ∧ t.StartOk ∧ t.TrackerOk ∧ t.DriveOk

/-- Every step of a sound node keeps the laws of the modes, the fades, the tests and the fault unit: outside TRIM a, u
and y are 0, and y is u × a / F; the test state is RUNNING exactly in TEST; no masked kind is set, CONFIG and ID_CLASH
are set exactly in HOLD, the lines are as status, classes and signal mask make them (R81, R93, R97, R105, R129, R133,
R134, R161 to R163, R169, R171). -/
def Obligations.StepKeepsModesAndFaults : Prop :=
  ∀ s t : State, s.Sound → step s = .next t → t.AuthorityOk ∧ t.TestOk ∧ t.FaultsOk

/-- Every step of a sound node keeps the laws of the line, of the answer queue, at most four deep, of the peer table and
of the observation slot (R29, R31, R33, R34, R37, R40, R41, R47 to R49, R58, R147, R155, R177). The model's own choice in
it: the receiver's state during an own attempt, a frame judged during one among them (log entries 5 and 6), and the
report slot and refill mark with an attempt that outlives entry to LISTEN (log entry 19). -/
def Obligations.StepKeepsLineAndPeers : Prop :=
  ∀ s t : State, s.Sound → step s = .next t → t.LineOk ∧ t.QueueOk ∧ t.PeersOk
end

