-- ==== Sys2Proof/Laws/State.lean ====
section
/-! SUPPORT. What each record update leaves as it was: one lemma for each field, so that no proof unfolds an update. -/

namespace Sys2Proof.Machine

/-! ### The peer table's map -/

@[simp] theorem State.setPeer_pending (s : State) (k : Nat) (e : PeerEntry) : (s.setPeer k e).pending = s.pending := by
  unfold State.setPeer; split <;> rfl
@[simp] theorem State.setPeer_clock (s : State) (k : Nat) (e : PeerEntry) : (s.setPeer k e).clock = s.clock := by
  unfold State.setPeer; split <;> rfl
@[simp] theorem State.setPeer_startUnit (s : State) (k : Nat) (e : PeerEntry) : (s.setPeer k e).startUnit = s.startUnit := by
  unfold State.setPeer; split <;> rfl
@[simp] theorem State.setPeer_tracker (s : State) (k : Nat) (e : PeerEntry) : (s.setPeer k e).tracker = s.tracker := by
  unfold State.setPeer; split <;> rfl
@[simp] theorem State.setPeer_drive (s : State) (k : Nat) (e : PeerEntry) : (s.setPeer k e).drive = s.drive := by
  unfold State.setPeer; split <;> rfl
@[simp] theorem State.setPeer_line (s : State) (k : Nat) (e : PeerEntry) : (s.setPeer k e).line = s.line := by
  unfold State.setPeer; split <;> rfl
@[simp] theorem State.setPeer_balance (s : State) (k : Nat) (e : PeerEntry) : (s.setPeer k e).balance = s.balance := by
  unfold State.setPeer; split <;> rfl
@[simp] theorem State.setPeer_control (s : State) (k : Nat) (e : PeerEntry) : (s.setPeer k e).control = s.control := by
  unfold State.setPeer; split <;> rfl
@[simp] theorem State.setPeer_draw (s : State) (k : Nat) (e : PeerEntry) : (s.setPeer k e).draw = s.draw := by
  unfold State.setPeer; split <;> rfl
@[simp] theorem State.setPeer_excitation (s : State) (k : Nat) (e : PeerEntry) : (s.setPeer k e).excitation = s.excitation := by
  unfold State.setPeer; split <;> rfl
@[simp] theorem State.setPeer_observation (s : State) (k : Nat) (e : PeerEntry) : (s.setPeer k e).observation = s.observation := by
  unfold State.setPeer; split <;> rfl
@[simp] theorem State.setPeer_fault (s : State) (k : Nat) (e : PeerEntry) : (s.setPeer k e).fault = s.fault := by
  unfold State.setPeer; split <;> rfl
@[simp] theorem State.setPeer_handler (s : State) (k : Nat) (e : PeerEntry) : (s.setPeer k e).handler = s.handler := by
  unfold State.setPeer; split <;> rfl

/-! ### Authority, phases and modes -/

@[simp] theorem State.zeroAuthority_pending (s : State) : (s.zeroAuthority).pending = s.pending := rfl
@[simp] theorem State.zeroAuthority_clock (s : State) : (s.zeroAuthority).clock = s.clock := rfl
@[simp] theorem State.zeroAuthority_startUnit (s : State) : (s.zeroAuthority).startUnit = s.startUnit := rfl
@[simp] theorem State.zeroAuthority_tracker (s : State) : (s.zeroAuthority).tracker = s.tracker := rfl
@[simp] theorem State.zeroAuthority_drive (s : State) : (s.zeroAuthority).drive = s.drive := rfl
@[simp] theorem State.zeroAuthority_line (s : State) : (s.zeroAuthority).line = s.line := rfl
@[simp] theorem State.zeroAuthority_peers (s : State) : (s.zeroAuthority).peers = s.peers := rfl
@[simp] theorem State.zeroAuthority_draw (s : State) : (s.zeroAuthority).draw = s.draw := rfl
@[simp] theorem State.zeroAuthority_excitation (s : State) : (s.zeroAuthority).excitation = s.excitation := rfl
@[simp] theorem State.zeroAuthority_observation (s : State) : (s.zeroAuthority).observation = s.observation := rfl
@[simp] theorem State.zeroAuthority_fault (s : State) : (s.zeroAuthority).fault = s.fault := rfl
@[simp] theorem State.zeroAuthority_handler (s : State) : (s.zeroAuthority).handler = s.handler := rfl
@[simp] theorem State.zeroAuthority_control_mode (s : State) : (s.zeroAuthority).control.mode = s.control.mode := rfl
@[simp] theorem State.zeroAuthority_control_evaluations (s : State) : (s.zeroAuthority).control.evaluations = s.control.evaluations := rfl
@[simp] theorem State.zeroAuthority_balance_saturationRun (s : State) : (s.zeroAuthority).balance.saturationRun = s.balance.saturationRun := rfl
@[simp] theorem State.zeroAuthority_balance_shareRun (s : State) : (s.zeroAuthority).balance.shareRun = s.balance.shareRun := rfl
@[simp] theorem State.zeroAuthority_balance_groupShort (s : State) : (s.zeroAuthority).balance.groupShort = s.balance.groupShort := rfl
@[simp] theorem State.zeroAuthority_balance_result (s : State) : (s.zeroAuthority).balance.result = s.balance.result := rfl
@[simp] theorem State.changePhase_pending (s : State) (p : Phase) : (s.changePhase p).pending = s.pending := rfl
@[simp] theorem State.changePhase_clock (s : State) (p : Phase) : (s.changePhase p).clock = s.clock := rfl
@[simp] theorem State.changePhase_startUnit (s : State) (p : Phase) : (s.changePhase p).startUnit = s.startUnit := rfl
@[simp] theorem State.changePhase_tracker (s : State) (p : Phase) : (s.changePhase p).tracker = s.tracker := rfl
@[simp] theorem State.changePhase_line (s : State) (p : Phase) : (s.changePhase p).line = s.line := rfl
@[simp] theorem State.changePhase_peers (s : State) (p : Phase) : (s.changePhase p).peers = s.peers := rfl
@[simp] theorem State.changePhase_balance (s : State) (p : Phase) : (s.changePhase p).balance = s.balance := rfl
@[simp] theorem State.changePhase_draw (s : State) (p : Phase) : (s.changePhase p).draw = s.draw := rfl
@[simp] theorem State.changePhase_excitation (s : State) (p : Phase) : (s.changePhase p).excitation = s.excitation := rfl
@[simp] theorem State.changePhase_observation (s : State) (p : Phase) : (s.changePhase p).observation = s.observation := rfl
@[simp] theorem State.changePhase_fault (s : State) (p : Phase) : (s.changePhase p).fault = s.fault := rfl
@[simp] theorem State.changePhase_handler (s : State) (p : Phase) : (s.changePhase p).handler = s.handler := rfl
@[simp] theorem State.changePhase_control_authority (s : State) (p : Phase) : (s.changePhase p).control.authority = s.control.authority := rfl
@[simp] theorem State.changePhase_control_trim (s : State) (p : Phase) : (s.changePhase p).control.trim = s.control.trim := rfl
@[simp] theorem State.changePhase_control_evaluations (s : State) (p : Phase) : (s.changePhase p).control.evaluations = s.control.evaluations := rfl
@[simp] theorem State.changePhase_drive_sum (s : State) (p : Phase) : (s.changePhase p).drive.sum = s.drive.sum := rfl
@[simp] theorem State.changePhase_drive_count (s : State) (p : Phase) : (s.changePhase p).drive.count = s.drive.count := rfl
@[simp] theorem State.changePhase_drive_held (s : State) (p : Phase) : (s.changePhase p).drive.held = s.drive.held := rfl
@[simp] theorem State.changePhase_drive_staleRun (s : State) (p : Phase) : (s.changePhase p).drive.staleRun = s.drive.staleRun := rfl
@[simp] theorem State.changePhase_drive_ready (s : State) (p : Phase) : (s.changePhase p).drive.ready = s.drive.ready := rfl
@[simp] theorem State.changePhase_drive_lastWord (s : State) (p : Phase) : (s.changePhase p).drive.lastWord = s.drive.lastWord := rfl
@[simp] theorem State.changePhase_drive_frame (s : State) (p : Phase) : (s.changePhase p).drive.frame = s.drive.frame := rfl
@[simp] theorem State.changePhase_drive_opened (s : State) (p : Phase) : (s.changePhase p).drive.opened = s.drive.opened := rfl

@[simp] theorem State.changePhase_drive_sending (s : State) (p : Phase) : (s.changePhase p).drive.sending = s.drive.sending := rfl

@[simp] theorem State.changePhase_drive_discards (s : State) (p : Phase) : (s.changePhase p).drive.discards = s.drive.discards := rfl
@[simp] theorem State.changePhase_drive_framesTaken (s : State) (p : Phase) : (s.changePhase p).drive.framesTaken = s.drive.framesTaken := rfl
@[simp] theorem State.settleTx_pending (s : State) : (s.settleTx).pending = s.pending := by
  unfold State.settleTx; split <;> rfl
@[simp] theorem State.settleTx_clock (s : State) : (s.settleTx).clock = s.clock := by
  unfold State.settleTx; split <;> rfl
@[simp] theorem State.settleTx_startUnit (s : State) : (s.settleTx).startUnit = s.startUnit := by
  unfold State.settleTx; split <;> rfl
@[simp] theorem State.settleTx_tracker (s : State) : (s.settleTx).tracker = s.tracker := by
  unfold State.settleTx; split <;> rfl
@[simp] theorem State.settleTx_drive (s : State) : (s.settleTx).drive = s.drive := by
  unfold State.settleTx; split <;> rfl
@[simp] theorem State.settleTx_peers (s : State) : (s.settleTx).peers = s.peers := by
  unfold State.settleTx; split <;> rfl
@[simp] theorem State.settleTx_balance (s : State) : (s.settleTx).balance = s.balance := by
  unfold State.settleTx; split <;> rfl
@[simp] theorem State.settleTx_control (s : State) : (s.settleTx).control = s.control := by
  unfold State.settleTx; split <;> rfl
@[simp] theorem State.settleTx_draw (s : State) : (s.settleTx).draw = s.draw := by
  unfold State.settleTx; split <;> rfl
@[simp] theorem State.settleTx_excitation (s : State) : (s.settleTx).excitation = s.excitation := by
  unfold State.settleTx; split <;> rfl
@[simp] theorem State.settleTx_observation (s : State) : (s.settleTx).observation = s.observation := by
  unfold State.settleTx; split <;> rfl
@[simp] theorem State.settleTx_fault (s : State) : (s.settleTx).fault = s.fault := by
  unfold State.settleTx; split <;> rfl
@[simp] theorem State.settleTx_handler (s : State) : (s.settleTx).handler = s.handler := by
  unfold State.settleTx; split <;> rfl
@[simp] theorem State.settleTx_line_rx (s : State) : (s.settleTx).line.rx = s.line.rx := by
  unfold State.settleTx; split <;> rfl
@[simp] theorem State.settleTx_line_step (s : State) : (s.settleTx).line.step = s.line.step := by
  unfold State.settleTx; split <;> rfl
@[simp] theorem State.settleTx_line_badRun (s : State) : (s.settleTx).line.badRun = s.line.badRun := by
  unfold State.settleTx; split <;> rfl
@[simp] theorem State.settleTx_line_attempt (s : State) : (s.settleTx).line.attempt = s.line.attempt := by
  unfold State.settleTx; split <;> rfl
@[simp] theorem State.settleTx_line_reportDue (s : State) : (s.settleTx).line.reportDue = s.line.reportDue := by
  unfold State.settleTx; split <;> rfl
@[simp] theorem State.settleTx_line_refill (s : State) : (s.settleTx).line.refill = s.line.refill := by
  unfold State.settleTx; split <;> rfl
@[simp] theorem State.settleTx_line_sequence (s : State) : (s.settleTx).line.sequence = s.line.sequence := by
  unfold State.settleTx; split <;> rfl
@[simp] theorem State.settleTx_line_goodFrames (s : State) : (s.settleTx).line.goodFrames = s.line.goodFrames := by
  unfold State.settleTx; split <;> rfl
@[simp] theorem State.settleTx_line_badFrames (s : State) : (s.settleTx).line.badFrames = s.line.badFrames := by
  unfold State.settleTx; split <;> rfl
@[simp] theorem State.settleTx_line_reportsSent (s : State) : (s.settleTx).line.reportsSent = s.line.reportsSent := by
  unfold State.settleTx; split <;> rfl
@[simp] theorem Line.onMode_step (l : Line) (m : Mode) : (l.onMode m).step = l.step := by cases m <;> rfl
@[simp] theorem Line.onMode_badRun (l : Line) (m : Mode) : (l.onMode m).badRun = l.badRun := by cases m <;> rfl
@[simp] theorem Line.onMode_sequence (l : Line) (m : Mode) : (l.onMode m).sequence = l.sequence := by cases m <;> rfl
@[simp] theorem Line.onMode_goodFrames (l : Line) (m : Mode) : (l.onMode m).goodFrames = l.goodFrames := by cases m <;> rfl
@[simp] theorem Line.onMode_badFrames (l : Line) (m : Mode) : (l.onMode m).badFrames = l.badFrames := by cases m <;> rfl
@[simp] theorem Line.onMode_reportsSent (l : Line) (m : Mode) : (l.onMode m).reportsSent = l.reportsSent := by
  cases m <;> rfl
@[simp] theorem State.changeMode_pending (s : State) (m : Mode) : (s.changeMode m).pending = s.pending := by
  simp [State.changeMode]
@[simp] theorem State.changeMode_clock (s : State) (m : Mode) : (s.changeMode m).clock = s.clock := by
  simp [State.changeMode]
@[simp] theorem State.changeMode_startUnit (s : State) (m : Mode) : (s.changeMode m).startUnit = s.startUnit := by
  simp [State.changeMode]
@[simp] theorem State.changeMode_tracker (s : State) (m : Mode) : (s.changeMode m).tracker = s.tracker := by
  simp [State.changeMode]
@[simp] theorem State.changeMode_peers (s : State) (m : Mode) : (s.changeMode m).peers = s.peers := by
  simp [State.changeMode]
@[simp] theorem State.changeMode_draw (s : State) (m : Mode) : (s.changeMode m).draw = s.draw := by
  simp [State.changeMode]
@[simp] theorem State.changeMode_excitation (s : State) (m : Mode) : (s.changeMode m).excitation = s.excitation := by
  simp [State.changeMode]
@[simp] theorem State.changeMode_observation (s : State) (m : Mode) : (s.changeMode m).observation = s.observation := by
  simp [State.changeMode]
@[simp] theorem State.changeMode_fault (s : State) (m : Mode) : (s.changeMode m).fault = s.fault := by
  simp [State.changeMode]
@[simp] theorem State.changeMode_handler (s : State) (m : Mode) : (s.changeMode m).handler = s.handler := by
  simp [State.changeMode]
@[simp] theorem State.changeMode_control_authority (s : State) (m : Mode) : (s.changeMode m).control.authority = s.control.authority := by
  simp [State.changeMode]
@[simp] theorem State.changeMode_control_trim (s : State) (m : Mode) : (s.changeMode m).control.trim = s.control.trim := by
  simp [State.changeMode]
@[simp] theorem State.changeMode_control_evaluations (s : State) (m : Mode) : (s.changeMode m).control.evaluations = s.control.evaluations := by
  simp [State.changeMode]
@[simp] theorem State.changeMode_balance_integrator (s : State) (m : Mode) : (s.changeMode m).balance.integrator = s.balance.integrator := by
  simp [State.changeMode]
@[simp] theorem State.changeMode_balance_result (s : State) (m : Mode) : (s.changeMode m).balance.result = s.balance.result := by
  simp [State.changeMode]
@[simp] theorem State.changeMode_drive_sum (s : State) (m : Mode) : (s.changeMode m).drive.sum = s.drive.sum := by
  simp [State.changeMode]
@[simp] theorem State.changeMode_drive_count (s : State) (m : Mode) : (s.changeMode m).drive.count = s.drive.count := by
  simp [State.changeMode]
@[simp] theorem State.changeMode_drive_held (s : State) (m : Mode) : (s.changeMode m).drive.held = s.drive.held := by
  simp [State.changeMode]
@[simp] theorem State.changeMode_drive_staleRun (s : State) (m : Mode) : (s.changeMode m).drive.staleRun = s.drive.staleRun := by
  simp [State.changeMode]
@[simp] theorem State.changeMode_drive_ready (s : State) (m : Mode) : (s.changeMode m).drive.ready = s.drive.ready := by
  simp [State.changeMode]
@[simp] theorem State.changeMode_drive_lastWord (s : State) (m : Mode) : (s.changeMode m).drive.lastWord = s.drive.lastWord := by
  simp [State.changeMode]
@[simp] theorem State.changeMode_drive_frame (s : State) (m : Mode) : (s.changeMode m).drive.frame = s.drive.frame := by
  simp [State.changeMode]
@[simp] theorem State.changeMode_drive_opened (s : State) (m : Mode) : (s.changeMode m).drive.opened = s.drive.opened := by
  simp [State.changeMode]

@[simp] theorem State.changeMode_drive_sending (s : State) (m : Mode) : (s.changeMode m).drive.sending = s.drive.sending := by
  simp [State.changeMode]

@[simp] theorem State.changeMode_drive_discards (s : State) (m : Mode) : (s.changeMode m).drive.discards = s.drive.discards := by
  simp [State.changeMode]
@[simp] theorem State.changeMode_drive_framesTaken (s : State) (m : Mode) : (s.changeMode m).drive.framesTaken = s.drive.framesTaken := by
  simp [State.changeMode]
@[simp] theorem State.changeMode_line_step (s : State) (m : Mode) : (s.changeMode m).line.step = s.line.step := by
  simp [State.changeMode]
@[simp] theorem State.changeMode_line_badRun (s : State) (m : Mode) : (s.changeMode m).line.badRun = s.line.badRun := by
  simp [State.changeMode]
@[simp] theorem State.changeMode_line_sequence (s : State) (m : Mode) : (s.changeMode m).line.sequence = s.line.sequence := by
  simp [State.changeMode]
@[simp] theorem State.changeMode_line_goodFrames (s : State) (m : Mode) : (s.changeMode m).line.goodFrames = s.line.goodFrames := by
  simp [State.changeMode]
@[simp] theorem State.changeMode_line_badFrames (s : State) (m : Mode) : (s.changeMode m).line.badFrames = s.line.badFrames := by
  simp [State.changeMode]
@[simp] theorem State.changeMode_line_reportsSent (s : State) (m : Mode) : (s.changeMode m).line.reportsSent = s.line.reportsSent := by
  simp [State.changeMode]
@[simp] theorem State.changeMode_control_mode (s : State) (m : Mode) : (s.changeMode m).control.mode = m := by
  simp [State.changeMode]
@[simp] theorem State.changePhase_control_mode (s : State) (p : Phase) : (s.changePhase p).control.mode = .trim p := rfl

/-! ### The other record updates -/

@[simp] theorem State.endTest_pending (s : State) (o : TestOutcome) : (s.endTest o).pending = s.pending := rfl
@[simp] theorem State.endTest_clock (s : State) (o : TestOutcome) : (s.endTest o).clock = s.clock := rfl
@[simp] theorem State.endTest_startUnit (s : State) (o : TestOutcome) : (s.endTest o).startUnit = s.startUnit := rfl
@[simp] theorem State.endTest_tracker (s : State) (o : TestOutcome) : (s.endTest o).tracker = s.tracker := rfl
@[simp] theorem State.endTest_drive (s : State) (o : TestOutcome) : (s.endTest o).drive = s.drive := rfl
@[simp] theorem State.endTest_line (s : State) (o : TestOutcome) : (s.endTest o).line = s.line := rfl
@[simp] theorem State.endTest_peers (s : State) (o : TestOutcome) : (s.endTest o).peers = s.peers := rfl
@[simp] theorem State.endTest_balance (s : State) (o : TestOutcome) : (s.endTest o).balance = s.balance := rfl
@[simp] theorem State.endTest_control (s : State) (o : TestOutcome) : (s.endTest o).control = s.control := rfl
@[simp] theorem State.endTest_draw (s : State) (o : TestOutcome) : (s.endTest o).draw = s.draw := rfl
@[simp] theorem State.endTest_observation (s : State) (o : TestOutcome) : (s.endTest o).observation = s.observation := rfl
@[simp] theorem State.endTest_fault (s : State) (o : TestOutcome) : (s.endTest o).fault = s.fault := rfl
@[simp] theorem State.endTest_handler (s : State) (o : TestOutcome) : (s.endTest o).handler = s.handler := rfl
@[simp] theorem State.endTest_excitation_pattern (s : State) (o : TestOutcome) : (s.endTest o).excitation.pattern = s.excitation.pattern := rfl
@[simp] theorem State.endTest_excitation_stepIndex (s : State) (o : TestOutcome) : (s.endTest o).excitation.stepIndex = s.excitation.stepIndex := rfl
@[simp] theorem State.endTest_excitation_position (s : State) (o : TestOutcome) : (s.endTest o).excitation.position = s.excitation.position := rfl
@[simp] theorem State.endTest_excitation_baseline (s : State) (o : TestOutcome) : (s.endTest o).excitation.baseline = s.excitation.baseline := rfl
@[simp] theorem State.endTest_excitation_count (s : State) (o : TestOutcome) : (s.endTest o).excitation.count = s.excitation.count := rfl
@[simp] theorem State.endTest_excitation_limitPosted (s : State) (o : TestOutcome) : (s.endTest o).excitation.limitPosted = s.excitation.limitPosted := rfl
@[simp] theorem State.emptySlot_pending (s : State) : (s.emptySlot).pending = s.pending := rfl
@[simp] theorem State.emptySlot_clock (s : State) : (s.emptySlot).clock = s.clock := rfl
@[simp] theorem State.emptySlot_startUnit (s : State) : (s.emptySlot).startUnit = s.startUnit := rfl
@[simp] theorem State.emptySlot_tracker (s : State) : (s.emptySlot).tracker = s.tracker := rfl
@[simp] theorem State.emptySlot_drive (s : State) : (s.emptySlot).drive = s.drive := rfl
@[simp] theorem State.emptySlot_line (s : State) : (s.emptySlot).line = s.line := rfl
@[simp] theorem State.emptySlot_peers (s : State) : (s.emptySlot).peers = s.peers := rfl
@[simp] theorem State.emptySlot_balance (s : State) : (s.emptySlot).balance = s.balance := rfl
@[simp] theorem State.emptySlot_control (s : State) : (s.emptySlot).control = s.control := rfl
@[simp] theorem State.emptySlot_draw (s : State) : (s.emptySlot).draw = s.draw := rfl
@[simp] theorem State.emptySlot_excitation (s : State) : (s.emptySlot).excitation = s.excitation := rfl
@[simp] theorem State.emptySlot_fault (s : State) : (s.emptySlot).fault = s.fault := rfl
@[simp] theorem State.emptySlot_handler (s : State) : (s.emptySlot).handler = s.handler := rfl
@[simp] theorem State.countGood_pending (s : State) (t : Nat) : (s.countGood t).pending = s.pending := rfl
@[simp] theorem State.countGood_startUnit (s : State) (t : Nat) : (s.countGood t).startUnit = s.startUnit := rfl
@[simp] theorem State.countGood_tracker (s : State) (t : Nat) : (s.countGood t).tracker = s.tracker := rfl
@[simp] theorem State.countGood_drive (s : State) (t : Nat) : (s.countGood t).drive = s.drive := rfl
@[simp] theorem State.countGood_peers (s : State) (t : Nat) : (s.countGood t).peers = s.peers := rfl
@[simp] theorem State.countGood_balance (s : State) (t : Nat) : (s.countGood t).balance = s.balance := rfl
@[simp] theorem State.countGood_control (s : State) (t : Nat) : (s.countGood t).control = s.control := rfl
@[simp] theorem State.countGood_draw (s : State) (t : Nat) : (s.countGood t).draw = s.draw := rfl
@[simp] theorem State.countGood_excitation (s : State) (t : Nat) : (s.countGood t).excitation = s.excitation := rfl
@[simp] theorem State.countGood_observation (s : State) (t : Nat) : (s.countGood t).observation = s.observation := rfl
@[simp] theorem State.countGood_fault (s : State) (t : Nat) : (s.countGood t).fault = s.fault := rfl
@[simp] theorem State.countGood_handler (s : State) (t : Nat) : (s.countGood t).handler = s.handler := rfl
@[simp] theorem State.countGood_line_tx (s : State) (t : Nat) : (s.countGood t).line.tx = s.line.tx := rfl
@[simp] theorem State.countGood_line_attempt (s : State) (t : Nat) : (s.countGood t).line.attempt = s.line.attempt := rfl
@[simp] theorem State.countGood_line_reportDue (s : State) (t : Nat) : (s.countGood t).line.reportDue = s.line.reportDue := rfl
@[simp] theorem State.countGood_line_refill (s : State) (t : Nat) : (s.countGood t).line.refill = s.line.refill := rfl
@[simp] theorem State.countGood_line_sequence (s : State) (t : Nat) : (s.countGood t).line.sequence = s.line.sequence := rfl
@[simp] theorem State.countGood_line_badFrames (s : State) (t : Nat) : (s.countGood t).line.badFrames = s.line.badFrames := rfl
@[simp] theorem State.countGood_line_reportsSent (s : State) (t : Nat) : (s.countGood t).line.reportsSent = s.line.reportsSent := rfl
@[simp] theorem State.discardTorque_pending (s : State) : (s.discardTorque).pending = s.pending := rfl
@[simp] theorem State.discardTorque_clock (s : State) : (s.discardTorque).clock = s.clock := rfl
@[simp] theorem State.discardTorque_startUnit (s : State) : (s.discardTorque).startUnit = s.startUnit := rfl
@[simp] theorem State.discardTorque_tracker (s : State) : (s.discardTorque).tracker = s.tracker := rfl
@[simp] theorem State.discardTorque_line (s : State) : (s.discardTorque).line = s.line := rfl
@[simp] theorem State.discardTorque_peers (s : State) : (s.discardTorque).peers = s.peers := rfl
@[simp] theorem State.discardTorque_balance (s : State) : (s.discardTorque).balance = s.balance := rfl
@[simp] theorem State.discardTorque_control (s : State) : (s.discardTorque).control = s.control := rfl
@[simp] theorem State.discardTorque_draw (s : State) : (s.discardTorque).draw = s.draw := rfl
@[simp] theorem State.discardTorque_excitation (s : State) : (s.discardTorque).excitation = s.excitation := rfl
@[simp] theorem State.discardTorque_observation (s : State) : (s.discardTorque).observation = s.observation := rfl
@[simp] theorem State.discardTorque_fault (s : State) : (s.discardTorque).fault = s.fault := rfl
@[simp] theorem State.discardTorque_handler (s : State) : (s.discardTorque).handler = s.handler := rfl
@[simp] theorem State.discardTorque_drive_sum (s : State) : (s.discardTorque).drive.sum = s.drive.sum := rfl
@[simp] theorem State.discardTorque_drive_count (s : State) : (s.discardTorque).drive.count = s.drive.count := rfl
@[simp] theorem State.discardTorque_drive_held (s : State) : (s.discardTorque).drive.held = s.drive.held := rfl
@[simp] theorem State.discardTorque_drive_staleRun (s : State) : (s.discardTorque).drive.staleRun = s.drive.staleRun := rfl
@[simp] theorem State.discardTorque_drive_ready (s : State) : (s.discardTorque).drive.ready = s.drive.ready := rfl
@[simp] theorem State.discardTorque_drive_posted (s : State) : (s.discardTorque).drive.posted = s.drive.posted := rfl
@[simp] theorem State.discardTorque_drive_lastWord (s : State) : (s.discardTorque).drive.lastWord = s.drive.lastWord := rfl
@[simp] theorem State.discardTorque_drive_frame (s : State) : (s.discardTorque).drive.frame = s.drive.frame := rfl
@[simp] theorem State.discardTorque_drive_opened (s : State) : (s.discardTorque).drive.opened = s.drive.opened := rfl

@[simp] theorem State.discardTorque_drive_sending (s : State) : (s.discardTorque).drive.sending = s.drive.sending := rfl

@[simp] theorem State.discardTorque_drive_framesTaken (s : State) : (s.discardTorque).drive.framesTaken = s.drive.framesTaken := rfl
@[simp] theorem State.accumulate_pending (s : State) (w : Int) (r : Bool) : (s.accumulate w r).pending = s.pending := rfl
@[simp] theorem State.accumulate_clock (s : State) (w : Int) (r : Bool) : (s.accumulate w r).clock = s.clock := rfl
@[simp] theorem State.accumulate_startUnit (s : State) (w : Int) (r : Bool) : (s.accumulate w r).startUnit = s.startUnit := rfl
@[simp] theorem State.accumulate_tracker (s : State) (w : Int) (r : Bool) : (s.accumulate w r).tracker = s.tracker := rfl
@[simp] theorem State.accumulate_line (s : State) (w : Int) (r : Bool) : (s.accumulate w r).line = s.line := rfl
@[simp] theorem State.accumulate_peers (s : State) (w : Int) (r : Bool) : (s.accumulate w r).peers = s.peers := rfl
@[simp] theorem State.accumulate_balance (s : State) (w : Int) (r : Bool) : (s.accumulate w r).balance = s.balance := rfl
@[simp] theorem State.accumulate_control (s : State) (w : Int) (r : Bool) : (s.accumulate w r).control = s.control := rfl
@[simp] theorem State.accumulate_draw (s : State) (w : Int) (r : Bool) : (s.accumulate w r).draw = s.draw := rfl
@[simp] theorem State.accumulate_excitation (s : State) (w : Int) (r : Bool) : (s.accumulate w r).excitation = s.excitation := rfl
@[simp] theorem State.accumulate_observation (s : State) (w : Int) (r : Bool) : (s.accumulate w r).observation = s.observation := rfl
@[simp] theorem State.accumulate_fault (s : State) (w : Int) (r : Bool) : (s.accumulate w r).fault = s.fault := rfl
@[simp] theorem State.accumulate_handler (s : State) (w : Int) (r : Bool) : (s.accumulate w r).handler = s.handler := rfl
@[simp] theorem State.accumulate_drive_held (s : State) (w : Int) (r : Bool) : (s.accumulate w r).drive.held = s.drive.held := rfl
@[simp] theorem State.accumulate_drive_staleRun (s : State) (w : Int) (r : Bool) : (s.accumulate w r).drive.staleRun = s.drive.staleRun := rfl
@[simp] theorem State.accumulate_drive_lastWord (s : State) (w : Int) (r : Bool) : (s.accumulate w r).drive.lastWord = s.drive.lastWord := rfl
@[simp] theorem State.accumulate_drive_frame (s : State) (w : Int) (r : Bool) : (s.accumulate w r).drive.frame = s.drive.frame := rfl
@[simp] theorem State.accumulate_drive_opened (s : State) (w : Int) (r : Bool) : (s.accumulate w r).drive.opened = s.drive.opened := rfl

@[simp] theorem State.accumulate_drive_sending (s : State) (w : Int) (r : Bool) : (s.accumulate w r).drive.sending = s.drive.sending := rfl

@[simp] theorem State.accumulate_drive_discards (s : State) (w : Int) (r : Bool) : (s.accumulate w r).drive.discards = s.drive.discards := rfl
@[simp] theorem State.countEvaluation_pending (s : State) : (s.countEvaluation).pending = s.pending := rfl
@[simp] theorem State.countEvaluation_clock (s : State) : (s.countEvaluation).clock = s.clock := rfl
@[simp] theorem State.countEvaluation_startUnit (s : State) : (s.countEvaluation).startUnit = s.startUnit := rfl
@[simp] theorem State.countEvaluation_tracker (s : State) : (s.countEvaluation).tracker = s.tracker := rfl
@[simp] theorem State.countEvaluation_drive (s : State) : (s.countEvaluation).drive = s.drive := rfl
@[simp] theorem State.countEvaluation_line (s : State) : (s.countEvaluation).line = s.line := rfl
@[simp] theorem State.countEvaluation_peers (s : State) : (s.countEvaluation).peers = s.peers := rfl
@[simp] theorem State.countEvaluation_balance (s : State) : (s.countEvaluation).balance = s.balance := rfl
@[simp] theorem State.countEvaluation_draw (s : State) : (s.countEvaluation).draw = s.draw := rfl
@[simp] theorem State.countEvaluation_excitation (s : State) : (s.countEvaluation).excitation = s.excitation := rfl
@[simp] theorem State.countEvaluation_observation (s : State) : (s.countEvaluation).observation = s.observation := rfl
@[simp] theorem State.countEvaluation_fault (s : State) : (s.countEvaluation).fault = s.fault := rfl
@[simp] theorem State.countEvaluation_handler (s : State) : (s.countEvaluation).handler = s.handler := rfl
@[simp] theorem State.countEvaluation_control_mode (s : State) : (s.countEvaluation).control.mode = s.control.mode := rfl
@[simp] theorem State.countEvaluation_control_authority (s : State) : (s.countEvaluation).control.authority = s.control.authority := rfl
@[simp] theorem State.countEvaluation_control_trim (s : State) : (s.countEvaluation).control.trim = s.control.trim := rfl
@[simp] theorem State.countDirective_pending (s : State) : (s.countDirective).pending = s.pending := rfl
@[simp] theorem State.countDirective_clock (s : State) : (s.countDirective).clock = s.clock := rfl
@[simp] theorem State.countDirective_startUnit (s : State) : (s.countDirective).startUnit = s.startUnit := rfl
@[simp] theorem State.countDirective_tracker (s : State) : (s.countDirective).tracker = s.tracker := rfl
@[simp] theorem State.countDirective_drive (s : State) : (s.countDirective).drive = s.drive := rfl
@[simp] theorem State.countDirective_line (s : State) : (s.countDirective).line = s.line := rfl
@[simp] theorem State.countDirective_peers (s : State) : (s.countDirective).peers = s.peers := rfl
@[simp] theorem State.countDirective_balance (s : State) : (s.countDirective).balance = s.balance := rfl
@[simp] theorem State.countDirective_control (s : State) : (s.countDirective).control = s.control := rfl
@[simp] theorem State.countDirective_draw (s : State) : (s.countDirective).draw = s.draw := rfl
@[simp] theorem State.countDirective_excitation (s : State) : (s.countDirective).excitation = s.excitation := rfl
@[simp] theorem State.countDirective_observation (s : State) : (s.countDirective).observation = s.observation := rfl
@[simp] theorem State.countDirective_fault (s : State) : (s.countDirective).fault = s.fault := rfl
@[simp] theorem State.countDirective_handler_queue (s : State) : (s.countDirective).handler.queue = s.handler.queue := rfl
@[simp] theorem State.countDirective_handler_tuning (s : State) : (s.countDirective).handler.tuning = s.handler.tuning := rfl
@[simp] theorem State.countDirective_handler_dropped (s : State) : (s.countDirective).handler.dropped = s.handler.dropped := rfl
@[simp] theorem State.countDirective_handler_snapshot (s : State) : (s.countDirective).handler.snapshot = s.handler.snapshot := rfl
@[simp] theorem State.takeSnapshot_pending (s : State) : (s.takeSnapshot).pending = s.pending := rfl
@[simp] theorem State.takeSnapshot_clock (s : State) : (s.takeSnapshot).clock = s.clock := rfl
@[simp] theorem State.takeSnapshot_startUnit (s : State) : (s.takeSnapshot).startUnit = s.startUnit := rfl
@[simp] theorem State.takeSnapshot_tracker (s : State) : (s.takeSnapshot).tracker = s.tracker := rfl
@[simp] theorem State.takeSnapshot_drive (s : State) : (s.takeSnapshot).drive = s.drive := rfl
@[simp] theorem State.takeSnapshot_line (s : State) : (s.takeSnapshot).line = s.line := rfl
@[simp] theorem State.takeSnapshot_peers (s : State) : (s.takeSnapshot).peers = s.peers := rfl
@[simp] theorem State.takeSnapshot_balance (s : State) : (s.takeSnapshot).balance = s.balance := rfl
@[simp] theorem State.takeSnapshot_control (s : State) : (s.takeSnapshot).control = s.control := rfl
@[simp] theorem State.takeSnapshot_draw (s : State) : (s.takeSnapshot).draw = s.draw := rfl
@[simp] theorem State.takeSnapshot_excitation (s : State) : (s.takeSnapshot).excitation = s.excitation := rfl
@[simp] theorem State.takeSnapshot_observation (s : State) : (s.takeSnapshot).observation = s.observation := rfl
@[simp] theorem State.takeSnapshot_fault (s : State) : (s.takeSnapshot).fault = s.fault := rfl
@[simp] theorem State.takeSnapshot_handler_queue (s : State) : (s.takeSnapshot).handler.queue = s.handler.queue := rfl
@[simp] theorem State.takeSnapshot_handler_tuning (s : State) : (s.takeSnapshot).handler.tuning = s.handler.tuning := rfl
@[simp] theorem State.takeSnapshot_handler_taken (s : State) : (s.takeSnapshot).handler.taken = s.handler.taken := rfl
@[simp] theorem State.takeSnapshot_handler_dropped (s : State) : (s.takeSnapshot).handler.dropped = s.handler.dropped := rfl
@[simp] theorem State.closeAccumulator_pending (s : State) : (s.closeAccumulator).pending = s.pending := rfl
@[simp] theorem State.closeAccumulator_clock (s : State) : (s.closeAccumulator).clock = s.clock := rfl
@[simp] theorem State.closeAccumulator_startUnit (s : State) : (s.closeAccumulator).startUnit = s.startUnit := rfl
@[simp] theorem State.closeAccumulator_tracker (s : State) : (s.closeAccumulator).tracker = s.tracker := rfl
@[simp] theorem State.closeAccumulator_line (s : State) : (s.closeAccumulator).line = s.line := rfl
@[simp] theorem State.closeAccumulator_peers (s : State) : (s.closeAccumulator).peers = s.peers := rfl
@[simp] theorem State.closeAccumulator_balance (s : State) : (s.closeAccumulator).balance = s.balance := rfl
@[simp] theorem State.closeAccumulator_control (s : State) : (s.closeAccumulator).control = s.control := rfl
@[simp] theorem State.closeAccumulator_draw (s : State) : (s.closeAccumulator).draw = s.draw := rfl
@[simp] theorem State.closeAccumulator_excitation (s : State) : (s.closeAccumulator).excitation = s.excitation := rfl
@[simp] theorem State.closeAccumulator_observation (s : State) : (s.closeAccumulator).observation = s.observation := rfl
@[simp] theorem State.closeAccumulator_fault (s : State) : (s.closeAccumulator).fault = s.fault := rfl
@[simp] theorem State.closeAccumulator_handler (s : State) : (s.closeAccumulator).handler = s.handler := rfl
@[simp] theorem State.applyTrim_pending (s : State) : (s.applyTrim).pending = s.pending := by
  unfold State.applyTrim; split <;> rfl
@[simp] theorem State.applyTrim_clock (s : State) : (s.applyTrim).clock = s.clock := by
  unfold State.applyTrim; split <;> rfl
@[simp] theorem State.applyTrim_startUnit (s : State) : (s.applyTrim).startUnit = s.startUnit := by
  unfold State.applyTrim; split <;> rfl
@[simp] theorem State.applyTrim_tracker (s : State) : (s.applyTrim).tracker = s.tracker := by
  unfold State.applyTrim; split <;> rfl
@[simp] theorem State.applyTrim_drive (s : State) : (s.applyTrim).drive = s.drive := by
  unfold State.applyTrim; split <;> rfl
@[simp] theorem State.applyTrim_line (s : State) : (s.applyTrim).line = s.line := by
  unfold State.applyTrim; split <;> rfl
@[simp] theorem State.applyTrim_peers (s : State) : (s.applyTrim).peers = s.peers := by
  unfold State.applyTrim; split <;> rfl
@[simp] theorem State.applyTrim_balance (s : State) : (s.applyTrim).balance = s.balance := by
  unfold State.applyTrim; split <;> rfl
@[simp] theorem State.applyTrim_draw (s : State) : (s.applyTrim).draw = s.draw := by
  unfold State.applyTrim; split <;> rfl
@[simp] theorem State.applyTrim_excitation (s : State) : (s.applyTrim).excitation = s.excitation := by
  unfold State.applyTrim; split <;> rfl
@[simp] theorem State.applyTrim_observation (s : State) : (s.applyTrim).observation = s.observation := by
  unfold State.applyTrim; split <;> rfl
@[simp] theorem State.applyTrim_fault (s : State) : (s.applyTrim).fault = s.fault := by
  unfold State.applyTrim; split <;> rfl
@[simp] theorem State.applyTrim_handler (s : State) : (s.applyTrim).handler = s.handler := by
  unfold State.applyTrim; split <;> rfl
@[simp] theorem State.applyTrim_control_mode (s : State) : (s.applyTrim).control.mode = s.control.mode := by
  unfold State.applyTrim; split <;> rfl
@[simp] theorem State.applyTrim_control_authority (s : State) : (s.applyTrim).control.authority = s.control.authority := by
  unfold State.applyTrim; split <;> rfl
@[simp] theorem State.applyTrim_control_evaluations (s : State) : (s.applyTrim).control.evaluations = s.control.evaluations := by
  unfold State.applyTrim; split <;> rfl
@[simp] theorem DriveLink.sendOut_opened (d : DriveLink) : (d.sendOut).opened = d.opened := by
  unfold DriveLink.sendOut; split <;> rfl
@[simp] theorem DriveLink.sendOut_sum (d : DriveLink) : (d.sendOut).sum = d.sum := by
  unfold DriveLink.sendOut; split <;> rfl
@[simp] theorem DriveLink.sendOut_count (d : DriveLink) : (d.sendOut).count = d.count := by
  unfold DriveLink.sendOut; split <;> rfl
@[simp] theorem DriveLink.sendOut_held (d : DriveLink) : (d.sendOut).held = d.held := by
  unfold DriveLink.sendOut; split <;> rfl
@[simp] theorem DriveLink.sendOut_staleRun (d : DriveLink) : (d.sendOut).staleRun = d.staleRun := by
  unfold DriveLink.sendOut; split <;> rfl
@[simp] theorem DriveLink.sendOut_ready (d : DriveLink) : (d.sendOut).ready = d.ready := by
  unfold DriveLink.sendOut; split <;> rfl
@[simp] theorem DriveLink.sendOut_posted (d : DriveLink) : (d.sendOut).posted = d.posted := by
  unfold DriveLink.sendOut; split <;> rfl
@[simp] theorem DriveLink.sendOut_lastWord (d : DriveLink) : (d.sendOut).lastWord = d.lastWord := by
  unfold DriveLink.sendOut; split <;> rfl
@[simp] theorem DriveLink.sendOut_discards (d : DriveLink) : (d.sendOut).discards = d.discards := by
  unfold DriveLink.sendOut; split <;> rfl
@[simp] theorem DriveLink.sendOut_framesTaken (d : DriveLink) : (d.sendOut).framesTaken = d.framesTaken := by
  unfold DriveLink.sendOut; split <;> rfl
@[simp] theorem DriveLink.sendOut_sending (d : DriveLink) : (d.sendOut).sending = none := by
  unfold DriveLink.sendOut; split <;> simp_all
@[simp] theorem State.openTorque_pending (s : State) (l : List Byte) : (s.openTorque l).pending = s.pending := rfl
@[simp] theorem State.openTorque_clock (s : State) (l : List Byte) : (s.openTorque l).clock = s.clock := rfl
@[simp] theorem State.openTorque_startUnit (s : State) (l : List Byte) : (s.openTorque l).startUnit = s.startUnit := rfl
@[simp] theorem State.openTorque_tracker (s : State) (l : List Byte) : (s.openTorque l).tracker = s.tracker := rfl
@[simp] theorem State.openTorque_line (s : State) (l : List Byte) : (s.openTorque l).line = s.line := rfl
@[simp] theorem State.openTorque_peers (s : State) (l : List Byte) : (s.openTorque l).peers = s.peers := rfl
@[simp] theorem State.openTorque_balance (s : State) (l : List Byte) : (s.openTorque l).balance = s.balance := rfl
@[simp] theorem State.openTorque_control (s : State) (l : List Byte) : (s.openTorque l).control = s.control := rfl
@[simp] theorem State.openTorque_draw (s : State) (l : List Byte) : (s.openTorque l).draw = s.draw := rfl
@[simp] theorem State.openTorque_excitation (s : State) (l : List Byte) : (s.openTorque l).excitation = s.excitation := rfl
@[simp] theorem State.openTorque_observation (s : State) (l : List Byte) : (s.openTorque l).observation = s.observation := rfl
@[simp] theorem State.openTorque_fault (s : State) (l : List Byte) : (s.openTorque l).fault = s.fault := rfl
@[simp] theorem State.openTorque_handler (s : State) (l : List Byte) : (s.openTorque l).handler = s.handler := rfl
@[simp] theorem State.openTorque_drive_sum (s : State) (l : List Byte) : (s.openTorque l).drive.sum = s.drive.sum := rfl
@[simp] theorem State.openTorque_drive_count (s : State) (l : List Byte) : (s.openTorque l).drive.count = s.drive.count := rfl
@[simp] theorem State.openTorque_drive_held (s : State) (l : List Byte) : (s.openTorque l).drive.held = s.drive.held := rfl
@[simp] theorem State.openTorque_drive_staleRun (s : State) (l : List Byte) : (s.openTorque l).drive.staleRun = s.drive.staleRun := rfl
@[simp] theorem State.openTorque_drive_ready (s : State) (l : List Byte) : (s.openTorque l).drive.ready = s.drive.ready := rfl
@[simp] theorem State.openTorque_drive_posted (s : State) (l : List Byte) : (s.openTorque l).drive.posted = s.drive.posted := rfl
@[simp] theorem State.openTorque_drive_lastWord (s : State) (l : List Byte) : (s.openTorque l).drive.lastWord = s.drive.lastWord := rfl
@[simp] theorem State.openTorque_drive_sending (s : State) (l : List Byte) : (s.openTorque l).drive.sending = s.drive.sending := rfl
@[simp] theorem State.openTorque_drive_frame (s : State) (l : List Byte) : (s.openTorque l).drive.frame = s.drive.frame := rfl
@[simp] theorem State.openTorque_drive_discards (s : State) (l : List Byte) : (s.openTorque l).drive.discards = s.drive.discards := rfl
@[simp] theorem State.openTorque_drive_framesTaken (s : State) (l : List Byte) : (s.openTorque l).drive.framesTaken = s.drive.framesTaken := rfl
@[simp] theorem State.openTorque_drive_opened (s : State) (l : List Byte) : (s.openTorque l).drive.opened = l := rfl
@[simp] theorem State.formReference_pending (s : State) : (s.formReference).pending = s.pending := by
  unfold State.formReference; split <;> rfl
@[simp] theorem State.formReference_clock (s : State) : (s.formReference).clock = s.clock := by
  unfold State.formReference; split <;> rfl
@[simp] theorem State.formReference_startUnit (s : State) : (s.formReference).startUnit = s.startUnit := by
  unfold State.formReference; split <;> rfl
@[simp] theorem State.formReference_tracker (s : State) : (s.formReference).tracker = s.tracker := by
  unfold State.formReference; split <;> rfl
@[simp] theorem State.formReference_line (s : State) : (s.formReference).line = s.line := by
  unfold State.formReference; split <;> rfl
@[simp] theorem State.formReference_peers (s : State) : (s.formReference).peers = s.peers := by
  unfold State.formReference; split <;> rfl
@[simp] theorem State.formReference_balance (s : State) : (s.formReference).balance = s.balance := by
  unfold State.formReference; split <;> rfl
@[simp] theorem State.formReference_control (s : State) : (s.formReference).control = s.control := by
  unfold State.formReference; split <;> rfl
@[simp] theorem State.formReference_draw (s : State) : (s.formReference).draw = s.draw := by
  unfold State.formReference; split <;> rfl
@[simp] theorem State.formReference_excitation (s : State) : (s.formReference).excitation = s.excitation := by
  unfold State.formReference; split <;> rfl
@[simp] theorem State.formReference_observation (s : State) : (s.formReference).observation = s.observation := by
  unfold State.formReference; split <;> rfl
@[simp] theorem State.formReference_fault (s : State) : (s.formReference).fault = s.fault := by
  unfold State.formReference; split <;> rfl
@[simp] theorem State.formReference_handler (s : State) : (s.formReference).handler = s.handler := by
  unfold State.formReference; split <;> rfl
@[simp] theorem State.formReference_drive_opened (s : State) : (s.formReference).drive.opened = s.drive.opened := by
  unfold State.formReference; split <;> simp
@[simp] theorem State.formReference_drive_sum (s : State) : (s.formReference).drive.sum = s.drive.sum := by
  unfold State.formReference; split <;> simp
@[simp] theorem State.formReference_drive_count (s : State) : (s.formReference).drive.count = s.drive.count := by
  unfold State.formReference; split <;> simp
@[simp] theorem State.formReference_drive_held (s : State) : (s.formReference).drive.held = s.drive.held := by
  unfold State.formReference; split <;> simp
@[simp] theorem State.formReference_drive_staleRun (s : State) : (s.formReference).drive.staleRun = s.drive.staleRun := by
  unfold State.formReference; split <;> simp
@[simp] theorem State.formReference_drive_ready (s : State) : (s.formReference).drive.ready = s.drive.ready := by
  unfold State.formReference; split <;> simp
@[simp] theorem State.formReference_drive_posted (s : State) : (s.formReference).drive.posted = s.drive.posted := by
  unfold State.formReference; split <;> simp
@[simp] theorem State.formReference_drive_discards (s : State) : (s.formReference).drive.discards = s.drive.discards := by
  unfold State.formReference; split <;> simp
@[simp] theorem State.formReference_drive_framesTaken (s : State) : (s.formReference).drive.framesTaken = s.drive.framesTaken := by
  unfold State.formReference; split <;> simp
@[simp] theorem State.enqueue_pending (s : State) (a : Answer) : (s.enqueue a).pending = s.pending := by
  simp [State.enqueue]
@[simp] theorem State.enqueue_clock (s : State) (a : Answer) : (s.enqueue a).clock = s.clock := by
  simp [State.enqueue]
@[simp] theorem State.enqueue_startUnit (s : State) (a : Answer) : (s.enqueue a).startUnit = s.startUnit := by
  simp [State.enqueue]
@[simp] theorem State.enqueue_tracker (s : State) (a : Answer) : (s.enqueue a).tracker = s.tracker := by
  simp [State.enqueue]
@[simp] theorem State.enqueue_drive (s : State) (a : Answer) : (s.enqueue a).drive = s.drive := by
  simp [State.enqueue]
@[simp] theorem State.enqueue_peers (s : State) (a : Answer) : (s.enqueue a).peers = s.peers := by
  simp [State.enqueue]
@[simp] theorem State.enqueue_balance (s : State) (a : Answer) : (s.enqueue a).balance = s.balance := by
  simp [State.enqueue]
@[simp] theorem State.enqueue_control (s : State) (a : Answer) : (s.enqueue a).control = s.control := by
  simp [State.enqueue]
@[simp] theorem State.enqueue_draw (s : State) (a : Answer) : (s.enqueue a).draw = s.draw := by
  simp [State.enqueue]
@[simp] theorem State.enqueue_excitation (s : State) (a : Answer) : (s.enqueue a).excitation = s.excitation := by
  simp [State.enqueue]
@[simp] theorem State.enqueue_observation (s : State) (a : Answer) : (s.enqueue a).observation = s.observation := by
  simp [State.enqueue]
@[simp] theorem State.enqueue_fault (s : State) (a : Answer) : (s.enqueue a).fault = s.fault := by
  simp [State.enqueue]
@[simp] theorem State.enqueue_handler_tuning (s : State) (a : Answer) : (s.enqueue a).handler.tuning = s.handler.tuning := by
  simp [State.enqueue]
@[simp] theorem State.enqueue_handler_taken (s : State) (a : Answer) : (s.enqueue a).handler.taken = s.handler.taken := by
  simp [State.enqueue]
@[simp] theorem State.enqueue_handler_dropped (s : State) (a : Answer) : (s.enqueue a).handler.dropped = s.handler.dropped := by
  simp [State.enqueue]
@[simp] theorem State.enqueue_handler_snapshot (s : State) (a : Answer) : (s.enqueue a).handler.snapshot = s.handler.snapshot := by
  simp [State.enqueue]
@[simp] theorem State.enqueue_line_step (s : State) (a : Answer) : (s.enqueue a).line.step = s.line.step := by
  simp [State.enqueue]
@[simp] theorem State.enqueue_line_badRun (s : State) (a : Answer) : (s.enqueue a).line.badRun = s.line.badRun := by
  simp [State.enqueue]
@[simp] theorem State.enqueue_line_sequence (s : State) (a : Answer) : (s.enqueue a).line.sequence = s.line.sequence := by
  simp [State.enqueue]
@[simp] theorem State.enqueue_line_goodFrames (s : State) (a : Answer) : (s.enqueue a).line.goodFrames = s.line.goodFrames := by
  simp [State.enqueue]
@[simp] theorem State.enqueue_line_badFrames (s : State) (a : Answer) : (s.enqueue a).line.badFrames = s.line.badFrames := by
  simp [State.enqueue]
@[simp] theorem State.enqueue_line_reportsSent (s : State) (a : Answer) : (s.enqueue a).line.reportsSent = s.line.reportsSent := by
  simp [State.enqueue]
@[simp] theorem State.idle_pending (s : State) : (s.idle).pending = s.pending := by
  unfold State.idle State.winContention; split <;> rfl
@[simp] theorem State.idle_clock (s : State) : (s.idle).clock = s.clock := by
  unfold State.idle State.winContention; split <;> rfl
@[simp] theorem State.idle_startUnit (s : State) : (s.idle).startUnit = s.startUnit := by
  unfold State.idle State.winContention; split <;> rfl
@[simp] theorem State.idle_tracker (s : State) : (s.idle).tracker = s.tracker := by
  unfold State.idle State.winContention; split <;> rfl
@[simp] theorem State.idle_peers (s : State) : (s.idle).peers = s.peers := by
  unfold State.idle State.winContention; split <;> rfl
@[simp] theorem State.idle_balance (s : State) : (s.idle).balance = s.balance := by
  unfold State.idle State.winContention; split <;> rfl
@[simp] theorem State.idle_control (s : State) : (s.idle).control = s.control := by
  unfold State.idle State.winContention; split <;> rfl
@[simp] theorem State.idle_draw (s : State) : (s.idle).draw = s.draw := by
  unfold State.idle State.winContention; split <;> rfl
@[simp] theorem State.idle_excitation (s : State) : (s.idle).excitation = s.excitation := by
  unfold State.idle State.winContention; split <;> rfl
@[simp] theorem State.idle_observation (s : State) : (s.idle).observation = s.observation := by
  unfold State.idle State.winContention; split <;> rfl
@[simp] theorem State.idle_fault (s : State) : (s.idle).fault = s.fault := by
  unfold State.idle State.winContention; split <;> rfl
@[simp] theorem State.idle_handler (s : State) : (s.idle).handler = s.handler := by
  unfold State.idle State.winContention; split <;> rfl
@[simp] theorem State.idle_drive (s : State) : (s.idle).drive = s.drive.sendOut := rfl
@[simp] theorem State.idle_line (s : State) : (s.idle).line = s.winContention.line := rfl

end Sys2Proof.Machine
end

