-- ==== Sys2Proof/Laws/Frames.lean ====
section
/-! SUPPORT. What each shared operation leaves as it was, field by field. -/

namespace Sys2Proof.Machine

/-! ### The trip drop and the taking of notices -/

@[simp] theorem State.toHold_frame (s : State) :
    (s.toHold).pending = s.pending ∧ (s.toHold).clock = s.clock ∧ (s.toHold).startUnit = s.startUnit
    ∧ (s.toHold).tracker = s.tracker ∧ (s.toHold).peers = s.peers ∧ (s.toHold).draw = s.draw
    ∧ (s.toHold).excitation = s.excitation ∧ (s.toHold).observation = s.observation
    ∧ (s.toHold).fault = s.fault ∧ (s.toHold).handler = s.handler
    ∧ (s.toHold).control.evaluations = s.control.evaluations := by
  simp [State.toHold]

@[simp] theorem State.tripDrop_frame (s : State) (h : Bool) :
    (s.tripDrop h).pending = s.pending ∧ (s.tripDrop h).clock = s.clock
    ∧ (s.tripDrop h).startUnit = s.startUnit ∧ (s.tripDrop h).tracker = s.tracker
    ∧ (s.tripDrop h).peers = s.peers ∧ (s.tripDrop h).draw = s.draw
    ∧ (s.tripDrop h).observation = s.observation ∧ (s.tripDrop h).fault = s.fault
    ∧ (s.tripDrop h).handler = s.handler ∧ (s.tripDrop h).control.evaluations = s.control.evaluations
    ∧ (s.tripDrop h).balance.result = s.balance.result ∧ (s.tripDrop h).drive.sum = s.drive.sum
    ∧ (s.tripDrop h).drive.count = s.drive.count ∧ (s.tripDrop h).drive.held = s.drive.held
    ∧ (s.tripDrop h).drive.staleRun = s.drive.staleRun ∧ (s.tripDrop h).drive.ready = s.drive.ready
    ∧ (s.tripDrop h).drive.lastWord = s.drive.lastWord ∧ (s.tripDrop h).drive.frame = s.drive.frame
    ∧ (s.tripDrop h).drive.opened = s.drive.opened ∧ (s.tripDrop h).drive.sending = s.drive.sending
    ∧ (s.tripDrop h).drive.discards = s.drive.discards ∧ (s.tripDrop h).drive.framesTaken = s.drive.framesTaken
    ∧ (s.tripDrop h).line.step = s.line.step ∧ (s.tripDrop h).line.badRun = s.line.badRun
    ∧ (s.tripDrop h).line.sequence = s.line.sequence ∧ (s.tripDrop h).line.goodFrames = s.line.goodFrames
    ∧ (s.tripDrop h).line.badFrames = s.line.badFrames ∧ (s.tripDrop h).line.reportsSent = s.line.reportsSent
    ∧ (s.tripDrop h).excitation.pattern = s.excitation.pattern
    ∧ (s.tripDrop h).excitation.stepIndex = s.excitation.stepIndex
    ∧ (s.tripDrop h).excitation.position = s.excitation.position
    ∧ (s.tripDrop h).excitation.baseline = s.excitation.baseline
    ∧ (s.tripDrop h).excitation.count = s.excitation.count
    ∧ (s.tripDrop h).excitation.limitPosted = s.excitation.limitPosted := by
  unfold State.tripDrop State.toHold; (repeat' split) <;> simp

@[simp] theorem State.toFirstTrip_frame (s : State) (ns : List Notice) :
    (s.toFirstTrip ns).pending = s.pending ∧ (s.toFirstTrip ns).clock = s.clock
    ∧ (s.toFirstTrip ns).startUnit = s.startUnit ∧ (s.toFirstTrip ns).tracker = s.tracker
    ∧ (s.toFirstTrip ns).drive = s.drive ∧ (s.toFirstTrip ns).line = s.line
    ∧ (s.toFirstTrip ns).peers = s.peers ∧ (s.toFirstTrip ns).balance = s.balance
    ∧ (s.toFirstTrip ns).control = s.control ∧ (s.toFirstTrip ns).draw = s.draw
    ∧ (s.toFirstTrip ns).excitation = s.excitation ∧ (s.toFirstTrip ns).observation = s.observation
    ∧ (s.toFirstTrip ns).handler = s.handler ∧ (s.toFirstTrip ns).fault.status = s.fault.status
    ∧ (s.toFirstTrip ns).fault.counts = s.fault.counts ∧ (s.toFirstTrip ns).fault.classMap = s.fault.classMap
    ∧ (s.toFirstTrip ns).fault.detectMask = s.fault.detectMask
    ∧ (s.toFirstTrip ns).fault.signalMask = s.fault.signalMask
    ∧ (s.toFirstTrip ns).fault.tripLine = s.fault.tripLine
    ∧ (s.toFirstTrip ns).fault.warnLine = s.fault.warnLine := by
  unfold State.toFirstTrip; (repeat' split) <;> simp

@[simp] theorem State.toFirstWarn_frame (s : State) (ns : List Notice) :
    (s.toFirstWarn ns).pending = s.pending ∧ (s.toFirstWarn ns).clock = s.clock
    ∧ (s.toFirstWarn ns).startUnit = s.startUnit ∧ (s.toFirstWarn ns).tracker = s.tracker
    ∧ (s.toFirstWarn ns).drive = s.drive ∧ (s.toFirstWarn ns).line = s.line
    ∧ (s.toFirstWarn ns).peers = s.peers ∧ (s.toFirstWarn ns).balance = s.balance
    ∧ (s.toFirstWarn ns).control = s.control ∧ (s.toFirstWarn ns).draw = s.draw
    ∧ (s.toFirstWarn ns).excitation = s.excitation ∧ (s.toFirstWarn ns).observation = s.observation
    ∧ (s.toFirstWarn ns).handler = s.handler ∧ (s.toFirstWarn ns).fault.status = s.fault.status
    ∧ (s.toFirstWarn ns).fault.counts = s.fault.counts ∧ (s.toFirstWarn ns).fault.classMap = s.fault.classMap
    ∧ (s.toFirstWarn ns).fault.detectMask = s.fault.detectMask
    ∧ (s.toFirstWarn ns).fault.signalMask = s.fault.signalMask
    ∧ (s.toFirstWarn ns).fault.tripLine = s.fault.tripLine
    ∧ (s.toFirstWarn ns).fault.warnLine = s.fault.warnLine := by
  unfold State.toFirstWarn; (repeat' split) <;> simp

theorem FaultUnit.count_fold_settings (ns : List Notice) (f : FaultUnit) :
    (ns.foldl FaultUnit.count f).classMap = f.classMap ∧ (ns.foldl FaultUnit.count f).detectMask = f.detectMask
      ∧ (ns.foldl FaultUnit.count f).signalMask = f.signalMask
      ∧ (ns.foldl FaultUnit.count f).firstTrip = f.firstTrip ∧ (ns.foldl FaultUnit.count f).firstWarn = f.firstWarn
      ∧ (ns.foldl FaultUnit.count f).multipleTrip = f.multipleTrip
      ∧ (ns.foldl FaultUnit.count f).multipleWarn = f.multipleWarn := by
  induction ns generalizing f with
  | nil => simp
  | cons n ns ih => simpa [List.foldl_cons, FaultUnit.count] using ih (f.count n)
@[simp] theorem State.recordNotices_frame (s : State) (ns : List Notice) :
    (s.recordNotices ns).pending = s.pending ∧ (s.recordNotices ns).clock = s.clock
    ∧ (s.recordNotices ns).startUnit = s.startUnit ∧ (s.recordNotices ns).tracker = s.tracker
    ∧ (s.recordNotices ns).drive = s.drive ∧ (s.recordNotices ns).line = s.line
    ∧ (s.recordNotices ns).peers = s.peers ∧ (s.recordNotices ns).balance = s.balance
    ∧ (s.recordNotices ns).control = s.control ∧ (s.recordNotices ns).draw = s.draw
    ∧ (s.recordNotices ns).excitation = s.excitation ∧ (s.recordNotices ns).observation = s.observation
    ∧ (s.recordNotices ns).handler = s.handler := by
  simp [State.recordNotices]

@[simp] theorem State.recordNotices_settings (s : State) (ns : List Notice) :
    (s.recordNotices ns).fault.classMap = s.fault.classMap
    ∧ (s.recordNotices ns).fault.detectMask = s.fault.detectMask
    ∧ (s.recordNotices ns).fault.signalMask = s.fault.signalMask := by
  simp [State.recordNotices, FaultUnit.driveLines, FaultUnit.count_fold_settings]

@[simp] theorem State.takeNotices_frame (s : State) (ns : List Notice) :
    (s.takeNotices ns).pending = s.pending ∧ (s.takeNotices ns).clock = s.clock
    ∧ (s.takeNotices ns).startUnit = s.startUnit ∧ (s.takeNotices ns).tracker = s.tracker
    ∧ (s.takeNotices ns).peers = s.peers ∧ (s.takeNotices ns).draw = s.draw
    ∧ (s.takeNotices ns).observation = s.observation ∧ (s.takeNotices ns).handler = s.handler
    ∧ (s.takeNotices ns).control.evaluations = s.control.evaluations
    ∧ (s.takeNotices ns).balance.result = s.balance.result ∧ (s.takeNotices ns).drive.sum = s.drive.sum
    ∧ (s.takeNotices ns).drive.count = s.drive.count ∧ (s.takeNotices ns).drive.held = s.drive.held
    ∧ (s.takeNotices ns).drive.staleRun = s.drive.staleRun ∧ (s.takeNotices ns).drive.ready = s.drive.ready
    ∧ (s.takeNotices ns).drive.lastWord = s.drive.lastWord ∧ (s.takeNotices ns).drive.frame = s.drive.frame
    ∧ (s.takeNotices ns).drive.opened = s.drive.opened ∧ (s.takeNotices ns).drive.sending = s.drive.sending
    ∧ (s.takeNotices ns).drive.discards = s.drive.discards
    ∧ (s.takeNotices ns).drive.framesTaken = s.drive.framesTaken ∧ (s.takeNotices ns).line.step = s.line.step
    ∧ (s.takeNotices ns).line.badRun = s.line.badRun ∧ (s.takeNotices ns).line.sequence = s.line.sequence
    ∧ (s.takeNotices ns).line.goodFrames = s.line.goodFrames
    ∧ (s.takeNotices ns).line.badFrames = s.line.badFrames
    ∧ (s.takeNotices ns).line.reportsSent = s.line.reportsSent
    ∧ (s.takeNotices ns).excitation.pattern = s.excitation.pattern
    ∧ (s.takeNotices ns).excitation.stepIndex = s.excitation.stepIndex
    ∧ (s.takeNotices ns).excitation.position = s.excitation.position
    ∧ (s.takeNotices ns).excitation.baseline = s.excitation.baseline
    ∧ (s.takeNotices ns).excitation.count = s.excitation.count
    ∧ (s.takeNotices ns).excitation.limitPosted = s.excitation.limitPosted
    ∧ (s.takeNotices ns).fault.classMap = s.fault.classMap
    ∧ (s.takeNotices ns).fault.detectMask = s.fault.detectMask
    ∧ (s.takeNotices ns).fault.signalMask = s.fault.signalMask := by
  unfold State.takeNotices; dsimp only
  split <;> simp

@[simp] theorem State.takeNotice_frame (s : State) (n : Notice) :
    (s.takeNotice n).pending = s.pending ∧ (s.takeNotice n).clock = s.clock
    ∧ (s.takeNotice n).startUnit = s.startUnit ∧ (s.takeNotice n).tracker = s.tracker
    ∧ (s.takeNotice n).peers = s.peers ∧ (s.takeNotice n).draw = s.draw
    ∧ (s.takeNotice n).observation = s.observation ∧ (s.takeNotice n).handler = s.handler
    ∧ (s.takeNotice n).control.evaluations = s.control.evaluations
    ∧ (s.takeNotice n).balance.result = s.balance.result ∧ (s.takeNotice n).drive.sum = s.drive.sum
    ∧ (s.takeNotice n).drive.count = s.drive.count ∧ (s.takeNotice n).drive.held = s.drive.held
    ∧ (s.takeNotice n).drive.staleRun = s.drive.staleRun ∧ (s.takeNotice n).drive.ready = s.drive.ready
    ∧ (s.takeNotice n).drive.lastWord = s.drive.lastWord ∧ (s.takeNotice n).drive.frame = s.drive.frame
    ∧ (s.takeNotice n).drive.opened = s.drive.opened ∧ (s.takeNotice n).drive.sending = s.drive.sending
    ∧ (s.takeNotice n).drive.discards = s.drive.discards
    ∧ (s.takeNotice n).drive.framesTaken = s.drive.framesTaken ∧ (s.takeNotice n).line.step = s.line.step
    ∧ (s.takeNotice n).line.badRun = s.line.badRun ∧ (s.takeNotice n).line.sequence = s.line.sequence
    ∧ (s.takeNotice n).line.goodFrames = s.line.goodFrames ∧ (s.takeNotice n).line.badFrames = s.line.badFrames
    ∧ (s.takeNotice n).line.reportsSent = s.line.reportsSent
    ∧ (s.takeNotice n).excitation.pattern = s.excitation.pattern
    ∧ (s.takeNotice n).excitation.stepIndex = s.excitation.stepIndex
    ∧ (s.takeNotice n).excitation.position = s.excitation.position
    ∧ (s.takeNotice n).excitation.baseline = s.excitation.baseline
    ∧ (s.takeNotice n).excitation.count = s.excitation.count
    ∧ (s.takeNotice n).excitation.limitPosted = s.excitation.limitPosted
    ∧ (s.takeNotice n).fault.classMap = s.fault.classMap
    ∧ (s.takeNotice n).fault.detectMask = s.fault.detectMask
    ∧ (s.takeNotice n).fault.signalMask = s.fault.signalMask := by
  simp [State.takeNotice]


/-! ### The coupling observer -/

@[simp] theorem State.countMissed_frame (s : State) (k : Nat) :
    (s.countMissed k).pending = s.pending ∧ (s.countMissed k).clock = s.clock
    ∧ (s.countMissed k).startUnit = s.startUnit ∧ (s.countMissed k).tracker = s.tracker
    ∧ (s.countMissed k).drive = s.drive ∧ (s.countMissed k).line = s.line
    ∧ (s.countMissed k).balance = s.balance ∧ (s.countMissed k).control = s.control
    ∧ (s.countMissed k).draw = s.draw ∧ (s.countMissed k).excitation = s.excitation
    ∧ (s.countMissed k).observation = s.observation ∧ (s.countMissed k).fault = s.fault
    ∧ (s.countMissed k).handler = s.handler := by
  simp [State.countMissed]

@[simp] theorem State.giveVerdict_frame (s : State) (k : Nat) :
    (s.giveVerdict k).pending = s.pending ∧ (s.giveVerdict k).clock = s.clock
    ∧ (s.giveVerdict k).startUnit = s.startUnit ∧ (s.giveVerdict k).tracker = s.tracker
    ∧ (s.giveVerdict k).draw = s.draw ∧ (s.giveVerdict k).observation = s.observation
    ∧ (s.giveVerdict k).handler = s.handler ∧ (s.giveVerdict k).control.evaluations = s.control.evaluations
    ∧ (s.giveVerdict k).balance.result = s.balance.result ∧ (s.giveVerdict k).drive.sum = s.drive.sum
    ∧ (s.giveVerdict k).drive.count = s.drive.count ∧ (s.giveVerdict k).drive.held = s.drive.held
    ∧ (s.giveVerdict k).drive.staleRun = s.drive.staleRun ∧ (s.giveVerdict k).drive.ready = s.drive.ready
    ∧ (s.giveVerdict k).drive.lastWord = s.drive.lastWord ∧ (s.giveVerdict k).drive.frame = s.drive.frame
    ∧ (s.giveVerdict k).drive.opened = s.drive.opened ∧ (s.giveVerdict k).drive.sending = s.drive.sending
    ∧ (s.giveVerdict k).drive.discards = s.drive.discards
    ∧ (s.giveVerdict k).drive.framesTaken = s.drive.framesTaken ∧ (s.giveVerdict k).line.step = s.line.step
    ∧ (s.giveVerdict k).line.badRun = s.line.badRun ∧ (s.giveVerdict k).line.sequence = s.line.sequence
    ∧ (s.giveVerdict k).line.goodFrames = s.line.goodFrames
    ∧ (s.giveVerdict k).line.badFrames = s.line.badFrames
    ∧ (s.giveVerdict k).line.reportsSent = s.line.reportsSent
    ∧ (s.giveVerdict k).excitation.pattern = s.excitation.pattern
    ∧ (s.giveVerdict k).excitation.stepIndex = s.excitation.stepIndex
    ∧ (s.giveVerdict k).excitation.position = s.excitation.position
    ∧ (s.giveVerdict k).excitation.baseline = s.excitation.baseline
    ∧ (s.giveVerdict k).excitation.count = s.excitation.count
    ∧ (s.giveVerdict k).excitation.limitPosted = s.excitation.limitPosted
    ∧ (s.giveVerdict k).fault.classMap = s.fault.classMap
    ∧ (s.giveVerdict k).fault.detectMask = s.fault.detectMask
    ∧ (s.giveVerdict k).fault.signalMask = s.fault.signalMask := by
  unfold State.giveVerdict
  try dsimp only
  (repeat' split) <;> simp

@[simp] theorem State.transition_frame (s : State) (k : Nat) (g : Sign) :
    (s.transition k g).pending = s.pending ∧ (s.transition k g).clock = s.clock
    ∧ (s.transition k g).startUnit = s.startUnit ∧ (s.transition k g).tracker = s.tracker
    ∧ (s.transition k g).drive = s.drive ∧ (s.transition k g).line = s.line
    ∧ (s.transition k g).balance = s.balance ∧ (s.transition k g).control = s.control
    ∧ (s.transition k g).draw = s.draw ∧ (s.transition k g).excitation = s.excitation
    ∧ (s.transition k g).fault = s.fault ∧ (s.transition k g).handler = s.handler := by
  unfold State.transition
  try dsimp only
  (repeat' split) <;> simp

@[simp] theorem State.levelChange_frame (s : State) (k : Nat) (a b : Level) :
    (s.levelChange k a b).pending = s.pending ∧ (s.levelChange k a b).clock = s.clock
    ∧ (s.levelChange k a b).startUnit = s.startUnit ∧ (s.levelChange k a b).tracker = s.tracker
    ∧ (s.levelChange k a b).drive = s.drive ∧ (s.levelChange k a b).line = s.line
    ∧ (s.levelChange k a b).balance = s.balance ∧ (s.levelChange k a b).control = s.control
    ∧ (s.levelChange k a b).draw = s.draw ∧ (s.levelChange k a b).excitation = s.excitation
    ∧ (s.levelChange k a b).fault = s.fault ∧ (s.levelChange k a b).handler = s.handler := by
  unfold State.levelChange
  try dsimp only
  (repeat' split) <;> simp

@[simp] theorem State.testStart_frame (s : State) (k : Nat) (l : Level) :
    (s.testStart k l).pending = s.pending ∧ (s.testStart k l).clock = s.clock
    ∧ (s.testStart k l).startUnit = s.startUnit ∧ (s.testStart k l).tracker = s.tracker
    ∧ (s.testStart k l).draw = s.draw ∧ (s.testStart k l).handler = s.handler
    ∧ (s.testStart k l).control.evaluations = s.control.evaluations
    ∧ (s.testStart k l).balance.result = s.balance.result ∧ (s.testStart k l).drive.sum = s.drive.sum
    ∧ (s.testStart k l).drive.count = s.drive.count ∧ (s.testStart k l).drive.held = s.drive.held
    ∧ (s.testStart k l).drive.staleRun = s.drive.staleRun ∧ (s.testStart k l).drive.ready = s.drive.ready
    ∧ (s.testStart k l).drive.lastWord = s.drive.lastWord ∧ (s.testStart k l).drive.frame = s.drive.frame
    ∧ (s.testStart k l).drive.opened = s.drive.opened ∧ (s.testStart k l).drive.sending = s.drive.sending
    ∧ (s.testStart k l).drive.discards = s.drive.discards
    ∧ (s.testStart k l).drive.framesTaken = s.drive.framesTaken ∧ (s.testStart k l).line.step = s.line.step
    ∧ (s.testStart k l).line.badRun = s.line.badRun ∧ (s.testStart k l).line.sequence = s.line.sequence
    ∧ (s.testStart k l).line.goodFrames = s.line.goodFrames
    ∧ (s.testStart k l).line.badFrames = s.line.badFrames
    ∧ (s.testStart k l).line.reportsSent = s.line.reportsSent
    ∧ (s.testStart k l).excitation.pattern = s.excitation.pattern
    ∧ (s.testStart k l).excitation.stepIndex = s.excitation.stepIndex
    ∧ (s.testStart k l).excitation.position = s.excitation.position
    ∧ (s.testStart k l).excitation.baseline = s.excitation.baseline
    ∧ (s.testStart k l).excitation.count = s.excitation.count
    ∧ (s.testStart k l).excitation.limitPosted = s.excitation.limitPosted
    ∧ (s.testStart k l).fault.classMap = s.fault.classMap
    ∧ (s.testStart k l).fault.detectMask = s.fault.detectMask
    ∧ (s.testStart k l).fault.signalMask = s.fault.signalMask := by
  unfold State.testStart
  try dsimp only
  (repeat' split) <;> simp

@[simp] theorem State.testEnd_frame (s : State) (k : Nat) :
    (s.testEnd k).pending = s.pending ∧ (s.testEnd k).clock = s.clock ∧ (s.testEnd k).startUnit = s.startUnit
    ∧ (s.testEnd k).tracker = s.tracker ∧ (s.testEnd k).draw = s.draw ∧ (s.testEnd k).handler = s.handler
    ∧ (s.testEnd k).control.evaluations = s.control.evaluations
    ∧ (s.testEnd k).balance.result = s.balance.result ∧ (s.testEnd k).drive.sum = s.drive.sum
    ∧ (s.testEnd k).drive.count = s.drive.count ∧ (s.testEnd k).drive.held = s.drive.held
    ∧ (s.testEnd k).drive.staleRun = s.drive.staleRun ∧ (s.testEnd k).drive.ready = s.drive.ready
    ∧ (s.testEnd k).drive.lastWord = s.drive.lastWord ∧ (s.testEnd k).drive.frame = s.drive.frame
    ∧ (s.testEnd k).drive.opened = s.drive.opened ∧ (s.testEnd k).drive.sending = s.drive.sending
    ∧ (s.testEnd k).drive.discards = s.drive.discards ∧ (s.testEnd k).drive.framesTaken = s.drive.framesTaken
    ∧ (s.testEnd k).line.step = s.line.step ∧ (s.testEnd k).line.badRun = s.line.badRun
    ∧ (s.testEnd k).line.sequence = s.line.sequence ∧ (s.testEnd k).line.goodFrames = s.line.goodFrames
    ∧ (s.testEnd k).line.badFrames = s.line.badFrames ∧ (s.testEnd k).line.reportsSent = s.line.reportsSent
    ∧ (s.testEnd k).excitation.pattern = s.excitation.pattern
    ∧ (s.testEnd k).excitation.stepIndex = s.excitation.stepIndex
    ∧ (s.testEnd k).excitation.position = s.excitation.position
    ∧ (s.testEnd k).excitation.baseline = s.excitation.baseline
    ∧ (s.testEnd k).excitation.count = s.excitation.count
    ∧ (s.testEnd k).excitation.limitPosted = s.excitation.limitPosted
    ∧ (s.testEnd k).fault.classMap = s.fault.classMap ∧ (s.testEnd k).fault.detectMask = s.fault.detectMask
    ∧ (s.testEnd k).fault.signalMask = s.fault.signalMask := by
  unfold State.testEnd
  try dsimp only
  (repeat' split) <;> simp

@[simp] theorem State.observeUpdate_frame (s : State) (k : Nat) (p : Option Contents) (c : Contents) :
    (s.observeUpdate k p c).pending = s.pending ∧ (s.observeUpdate k p c).clock = s.clock
    ∧ (s.observeUpdate k p c).startUnit = s.startUnit ∧ (s.observeUpdate k p c).tracker = s.tracker
    ∧ (s.observeUpdate k p c).draw = s.draw ∧ (s.observeUpdate k p c).handler = s.handler
    ∧ (s.observeUpdate k p c).control.evaluations = s.control.evaluations
    ∧ (s.observeUpdate k p c).balance.result = s.balance.result
    ∧ (s.observeUpdate k p c).drive.sum = s.drive.sum ∧ (s.observeUpdate k p c).drive.count = s.drive.count
    ∧ (s.observeUpdate k p c).drive.held = s.drive.held
    ∧ (s.observeUpdate k p c).drive.staleRun = s.drive.staleRun
    ∧ (s.observeUpdate k p c).drive.ready = s.drive.ready
    ∧ (s.observeUpdate k p c).drive.lastWord = s.drive.lastWord
    ∧ (s.observeUpdate k p c).drive.frame = s.drive.frame
    ∧ (s.observeUpdate k p c).drive.opened = s.drive.opened ∧ (s.observeUpdate k p c).drive.sending = s.drive.sending
    ∧ (s.observeUpdate k p c).drive.discards = s.drive.discards
    ∧ (s.observeUpdate k p c).drive.framesTaken = s.drive.framesTaken
    ∧ (s.observeUpdate k p c).line.step = s.line.step ∧ (s.observeUpdate k p c).line.badRun = s.line.badRun
    ∧ (s.observeUpdate k p c).line.sequence = s.line.sequence
    ∧ (s.observeUpdate k p c).line.goodFrames = s.line.goodFrames
    ∧ (s.observeUpdate k p c).line.badFrames = s.line.badFrames
    ∧ (s.observeUpdate k p c).line.reportsSent = s.line.reportsSent
    ∧ (s.observeUpdate k p c).excitation.pattern = s.excitation.pattern
    ∧ (s.observeUpdate k p c).excitation.stepIndex = s.excitation.stepIndex
    ∧ (s.observeUpdate k p c).excitation.position = s.excitation.position
    ∧ (s.observeUpdate k p c).excitation.baseline = s.excitation.baseline
    ∧ (s.observeUpdate k p c).excitation.count = s.excitation.count
    ∧ (s.observeUpdate k p c).excitation.limitPosted = s.excitation.limitPosted
    ∧ (s.observeUpdate k p c).fault.classMap = s.fault.classMap
    ∧ (s.observeUpdate k p c).fault.detectMask = s.fault.detectMask
    ∧ (s.observeUpdate k p c).fault.signalMask = s.fault.signalMask := by
  unfold State.observeUpdate
  try dsimp only
  (repeat' split) <;> simp

@[simp] theorem State.observeDemotion_frame (s : State) (d : Demotion) :
    (s.observeDemotion d).pending = s.pending ∧ (s.observeDemotion d).clock = s.clock
    ∧ (s.observeDemotion d).startUnit = s.startUnit ∧ (s.observeDemotion d).tracker = s.tracker
    ∧ (s.observeDemotion d).drive = s.drive ∧ (s.observeDemotion d).line = s.line
    ∧ (s.observeDemotion d).balance = s.balance ∧ (s.observeDemotion d).control = s.control
    ∧ (s.observeDemotion d).draw = s.draw ∧ (s.observeDemotion d).excitation = s.excitation
    ∧ (s.observeDemotion d).fault = s.fault ∧ (s.observeDemotion d).handler = s.handler := by
  unfold State.observeDemotion
  try dsimp only
  (repeat' split) <;> simp

@[simp] theorem State.judge_frame (s : State) (k : Nat) (g : Sign) (b : Int) :
    (s.judge k g b).pending = s.pending ∧ (s.judge k g b).clock = s.clock
    ∧ (s.judge k g b).startUnit = s.startUnit ∧ (s.judge k g b).tracker = s.tracker
    ∧ (s.judge k g b).drive = s.drive ∧ (s.judge k g b).line = s.line ∧ (s.judge k g b).balance = s.balance
    ∧ (s.judge k g b).control = s.control ∧ (s.judge k g b).draw = s.draw
    ∧ (s.judge k g b).excitation = s.excitation ∧ (s.judge k g b).observation = s.observation
    ∧ (s.judge k g b).fault = s.fault ∧ (s.judge k g b).handler = s.handler := by
  unfold State.judge
  try dsimp only
  (repeat' split) <;> simp

@[simp] theorem State.observe_frame (s : State) :
    (s.observe).pending = s.pending ∧ (s.observe).clock = s.clock ∧ (s.observe).startUnit = s.startUnit
    ∧ (s.observe).tracker = s.tracker ∧ (s.observe).draw = s.draw ∧ (s.observe).handler = s.handler
    ∧ (s.observe).control.evaluations = s.control.evaluations ∧ (s.observe).balance.result = s.balance.result
    ∧ (s.observe).drive.sum = s.drive.sum ∧ (s.observe).drive.count = s.drive.count
    ∧ (s.observe).drive.held = s.drive.held ∧ (s.observe).drive.staleRun = s.drive.staleRun
    ∧ (s.observe).drive.ready = s.drive.ready ∧ (s.observe).drive.lastWord = s.drive.lastWord
    ∧ (s.observe).drive.frame = s.drive.frame
    ∧ (s.observe).drive.opened = s.drive.opened ∧ (s.observe).drive.sending = s.drive.sending
    ∧ (s.observe).drive.discards = s.drive.discards
    ∧ (s.observe).drive.framesTaken = s.drive.framesTaken ∧ (s.observe).line.step = s.line.step
    ∧ (s.observe).line.badRun = s.line.badRun ∧ (s.observe).line.sequence = s.line.sequence
    ∧ (s.observe).line.goodFrames = s.line.goodFrames ∧ (s.observe).line.badFrames = s.line.badFrames
    ∧ (s.observe).line.reportsSent = s.line.reportsSent ∧ (s.observe).excitation.pattern = s.excitation.pattern
    ∧ (s.observe).excitation.stepIndex = s.excitation.stepIndex
    ∧ (s.observe).excitation.position = s.excitation.position
    ∧ (s.observe).excitation.baseline = s.excitation.baseline
    ∧ (s.observe).excitation.count = s.excitation.count
    ∧ (s.observe).excitation.limitPosted = s.excitation.limitPosted
    ∧ (s.observe).fault.classMap = s.fault.classMap ∧ (s.observe).fault.detectMask = s.fault.detectMask
    ∧ (s.observe).fault.signalMask = s.fault.signalMask := by
  unfold State.observe
  try dsimp only
  (repeat' split) <;> simp

@[simp] theorem State.observeEvaluation_frame (s : State) :
    (s.observeEvaluation).pending = s.pending ∧ (s.observeEvaluation).clock = s.clock
    ∧ (s.observeEvaluation).startUnit = s.startUnit ∧ (s.observeEvaluation).tracker = s.tracker
    ∧ (s.observeEvaluation).draw = s.draw ∧ (s.observeEvaluation).handler = s.handler
    ∧ (s.observeEvaluation).control.evaluations = s.control.evaluations
    ∧ (s.observeEvaluation).balance.result = s.balance.result ∧ (s.observeEvaluation).drive.sum = s.drive.sum
    ∧ (s.observeEvaluation).drive.count = s.drive.count ∧ (s.observeEvaluation).drive.held = s.drive.held
    ∧ (s.observeEvaluation).drive.staleRun = s.drive.staleRun
    ∧ (s.observeEvaluation).drive.ready = s.drive.ready
    ∧ (s.observeEvaluation).drive.lastWord = s.drive.lastWord
    ∧ (s.observeEvaluation).drive.frame = s.drive.frame
    ∧ (s.observeEvaluation).drive.opened = s.drive.opened ∧ (s.observeEvaluation).drive.sending = s.drive.sending
    ∧ (s.observeEvaluation).drive.discards = s.drive.discards
    ∧ (s.observeEvaluation).drive.framesTaken = s.drive.framesTaken
    ∧ (s.observeEvaluation).line.step = s.line.step ∧ (s.observeEvaluation).line.badRun = s.line.badRun
    ∧ (s.observeEvaluation).line.sequence = s.line.sequence
    ∧ (s.observeEvaluation).line.goodFrames = s.line.goodFrames
    ∧ (s.observeEvaluation).line.badFrames = s.line.badFrames
    ∧ (s.observeEvaluation).line.reportsSent = s.line.reportsSent
    ∧ (s.observeEvaluation).excitation.pattern = s.excitation.pattern
    ∧ (s.observeEvaluation).excitation.stepIndex = s.excitation.stepIndex
    ∧ (s.observeEvaluation).excitation.position = s.excitation.position
    ∧ (s.observeEvaluation).excitation.baseline = s.excitation.baseline
    ∧ (s.observeEvaluation).excitation.count = s.excitation.count
    ∧ (s.observeEvaluation).excitation.limitPosted = s.excitation.limitPosted
    ∧ (s.observeEvaluation).fault.classMap = s.fault.classMap
    ∧ (s.observeEvaluation).fault.detectMask = s.fault.detectMask
    ∧ (s.observeEvaluation).fault.signalMask = s.fault.signalMask := by
  unfold State.observeEvaluation
  try dsimp only
  (repeat' split) <;> simp

@[simp] theorem State.observeTestEntry_frame (s : State) :
    (s.observeTestEntry).pending = s.pending ∧ (s.observeTestEntry).clock = s.clock
    ∧ (s.observeTestEntry).startUnit = s.startUnit ∧ (s.observeTestEntry).tracker = s.tracker
    ∧ (s.observeTestEntry).draw = s.draw ∧ (s.observeTestEntry).handler = s.handler
    ∧ (s.observeTestEntry).control.evaluations = s.control.evaluations
    ∧ (s.observeTestEntry).balance.result = s.balance.result ∧ (s.observeTestEntry).drive.sum = s.drive.sum
    ∧ (s.observeTestEntry).drive.count = s.drive.count ∧ (s.observeTestEntry).drive.held = s.drive.held
    ∧ (s.observeTestEntry).drive.staleRun = s.drive.staleRun ∧ (s.observeTestEntry).drive.ready = s.drive.ready
    ∧ (s.observeTestEntry).drive.lastWord = s.drive.lastWord ∧ (s.observeTestEntry).drive.frame = s.drive.frame
    ∧ (s.observeTestEntry).drive.opened = s.drive.opened ∧ (s.observeTestEntry).drive.sending = s.drive.sending
    ∧ (s.observeTestEntry).drive.discards = s.drive.discards
    ∧ (s.observeTestEntry).drive.framesTaken = s.drive.framesTaken
    ∧ (s.observeTestEntry).line.step = s.line.step ∧ (s.observeTestEntry).line.badRun = s.line.badRun
    ∧ (s.observeTestEntry).line.sequence = s.line.sequence
    ∧ (s.observeTestEntry).line.goodFrames = s.line.goodFrames
    ∧ (s.observeTestEntry).line.badFrames = s.line.badFrames
    ∧ (s.observeTestEntry).line.reportsSent = s.line.reportsSent
    ∧ (s.observeTestEntry).excitation.pattern = s.excitation.pattern
    ∧ (s.observeTestEntry).excitation.stepIndex = s.excitation.stepIndex
    ∧ (s.observeTestEntry).excitation.position = s.excitation.position
    ∧ (s.observeTestEntry).excitation.baseline = s.excitation.baseline
    ∧ (s.observeTestEntry).excitation.count = s.excitation.count
    ∧ (s.observeTestEntry).excitation.limitPosted = s.excitation.limitPosted
    ∧ (s.observeTestEntry).fault.classMap = s.fault.classMap
    ∧ (s.observeTestEntry).fault.detectMask = s.fault.detectMask
    ∧ (s.observeTestEntry).fault.signalMask = s.fault.signalMask := by
  unfold State.observeTestEntry
  try dsimp only
  (repeat' split) <;> simp


/-! ### The peer table -/

@[simp] theorem State.afterBreak_frame (s : State) (k : Nat) (q : Bool) :
    (s.afterBreak k q).pending = s.pending ∧ (s.afterBreak k q).clock = s.clock
    ∧ (s.afterBreak k q).startUnit = s.startUnit ∧ (s.afterBreak k q).tracker = s.tracker
    ∧ (s.afterBreak k q).draw = s.draw ∧ (s.afterBreak k q).handler = s.handler
    ∧ (s.afterBreak k q).control.evaluations = s.control.evaluations
    ∧ (s.afterBreak k q).balance.result = s.balance.result ∧ (s.afterBreak k q).drive.sum = s.drive.sum
    ∧ (s.afterBreak k q).drive.count = s.drive.count ∧ (s.afterBreak k q).drive.held = s.drive.held
    ∧ (s.afterBreak k q).drive.staleRun = s.drive.staleRun ∧ (s.afterBreak k q).drive.ready = s.drive.ready
    ∧ (s.afterBreak k q).drive.lastWord = s.drive.lastWord ∧ (s.afterBreak k q).drive.frame = s.drive.frame
    ∧ (s.afterBreak k q).drive.opened = s.drive.opened ∧ (s.afterBreak k q).drive.sending = s.drive.sending
    ∧ (s.afterBreak k q).drive.discards = s.drive.discards
    ∧ (s.afterBreak k q).drive.framesTaken = s.drive.framesTaken ∧ (s.afterBreak k q).line.step = s.line.step
    ∧ (s.afterBreak k q).line.badRun = s.line.badRun ∧ (s.afterBreak k q).line.sequence = s.line.sequence
    ∧ (s.afterBreak k q).line.goodFrames = s.line.goodFrames
    ∧ (s.afterBreak k q).line.badFrames = s.line.badFrames
    ∧ (s.afterBreak k q).line.reportsSent = s.line.reportsSent
    ∧ (s.afterBreak k q).excitation.pattern = s.excitation.pattern
    ∧ (s.afterBreak k q).excitation.stepIndex = s.excitation.stepIndex
    ∧ (s.afterBreak k q).excitation.position = s.excitation.position
    ∧ (s.afterBreak k q).excitation.baseline = s.excitation.baseline
    ∧ (s.afterBreak k q).excitation.count = s.excitation.count
    ∧ (s.afterBreak k q).excitation.limitPosted = s.excitation.limitPosted
    ∧ (s.afterBreak k q).fault.classMap = s.fault.classMap
    ∧ (s.afterBreak k q).fault.detectMask = s.fault.detectMask
    ∧ (s.afterBreak k q).fault.signalMask = s.fault.signalMask := by
  unfold State.afterBreak
  try dsimp only
  (repeat' split) <;> simp

@[simp] theorem State.takeReport_frame (s : State) (k : Nat) (r : Report) :
    (s.takeReport k r).pending = s.pending ∧ (s.takeReport k r).clock = s.clock
    ∧ (s.takeReport k r).startUnit = s.startUnit ∧ (s.takeReport k r).tracker = s.tracker
    ∧ (s.takeReport k r).draw = s.draw ∧ (s.takeReport k r).handler = s.handler
    ∧ (s.takeReport k r).control.evaluations = s.control.evaluations
    ∧ (s.takeReport k r).balance.result = s.balance.result ∧ (s.takeReport k r).drive.sum = s.drive.sum
    ∧ (s.takeReport k r).drive.count = s.drive.count ∧ (s.takeReport k r).drive.held = s.drive.held
    ∧ (s.takeReport k r).drive.staleRun = s.drive.staleRun ∧ (s.takeReport k r).drive.ready = s.drive.ready
    ∧ (s.takeReport k r).drive.lastWord = s.drive.lastWord ∧ (s.takeReport k r).drive.frame = s.drive.frame
    ∧ (s.takeReport k r).drive.opened = s.drive.opened ∧ (s.takeReport k r).drive.sending = s.drive.sending
    ∧ (s.takeReport k r).drive.discards = s.drive.discards
    ∧ (s.takeReport k r).drive.framesTaken = s.drive.framesTaken ∧ (s.takeReport k r).line.step = s.line.step
    ∧ (s.takeReport k r).line.badRun = s.line.badRun ∧ (s.takeReport k r).line.sequence = s.line.sequence
    ∧ (s.takeReport k r).line.goodFrames = s.line.goodFrames
    ∧ (s.takeReport k r).line.badFrames = s.line.badFrames
    ∧ (s.takeReport k r).line.reportsSent = s.line.reportsSent
    ∧ (s.takeReport k r).excitation.pattern = s.excitation.pattern
    ∧ (s.takeReport k r).excitation.stepIndex = s.excitation.stepIndex
    ∧ (s.takeReport k r).excitation.position = s.excitation.position
    ∧ (s.takeReport k r).excitation.baseline = s.excitation.baseline
    ∧ (s.takeReport k r).excitation.count = s.excitation.count
    ∧ (s.takeReport k r).excitation.limitPosted = s.excitation.limitPosted
    ∧ (s.takeReport k r).fault.classMap = s.fault.classMap
    ∧ (s.takeReport k r).fault.detectMask = s.fault.detectMask
    ∧ (s.takeReport k r).fault.signalMask = s.fault.signalMask := by
  unfold State.takeReport
  try dsimp only
  (repeat' split) <;> simp

@[simp] theorem State.reportArrives_frame (s : State) (k : Nat) (p : List Byte) :
    (s.reportArrives k p).pending = s.pending ∧ (s.reportArrives k p).clock = s.clock
    ∧ (s.reportArrives k p).startUnit = s.startUnit ∧ (s.reportArrives k p).tracker = s.tracker
    ∧ (s.reportArrives k p).draw = s.draw ∧ (s.reportArrives k p).handler = s.handler
    ∧ (s.reportArrives k p).control.evaluations = s.control.evaluations
    ∧ (s.reportArrives k p).balance.result = s.balance.result ∧ (s.reportArrives k p).drive.sum = s.drive.sum
    ∧ (s.reportArrives k p).drive.count = s.drive.count ∧ (s.reportArrives k p).drive.held = s.drive.held
    ∧ (s.reportArrives k p).drive.staleRun = s.drive.staleRun
    ∧ (s.reportArrives k p).drive.ready = s.drive.ready
    ∧ (s.reportArrives k p).drive.lastWord = s.drive.lastWord
    ∧ (s.reportArrives k p).drive.frame = s.drive.frame
    ∧ (s.reportArrives k p).drive.opened = s.drive.opened ∧ (s.reportArrives k p).drive.sending = s.drive.sending
    ∧ (s.reportArrives k p).drive.discards = s.drive.discards
    ∧ (s.reportArrives k p).drive.framesTaken = s.drive.framesTaken
    ∧ (s.reportArrives k p).line.step = s.line.step ∧ (s.reportArrives k p).line.badRun = s.line.badRun
    ∧ (s.reportArrives k p).line.sequence = s.line.sequence
    ∧ (s.reportArrives k p).line.goodFrames = s.line.goodFrames
    ∧ (s.reportArrives k p).line.badFrames = s.line.badFrames
    ∧ (s.reportArrives k p).line.reportsSent = s.line.reportsSent
    ∧ (s.reportArrives k p).excitation.pattern = s.excitation.pattern
    ∧ (s.reportArrives k p).excitation.stepIndex = s.excitation.stepIndex
    ∧ (s.reportArrives k p).excitation.position = s.excitation.position
    ∧ (s.reportArrives k p).excitation.baseline = s.excitation.baseline
    ∧ (s.reportArrives k p).excitation.count = s.excitation.count
    ∧ (s.reportArrives k p).excitation.limitPosted = s.excitation.limitPosted
    ∧ (s.reportArrives k p).fault.classMap = s.fault.classMap
    ∧ (s.reportArrives k p).fault.detectMask = s.fault.detectMask
    ∧ (s.reportArrives k p).fault.signalMask = s.fault.signalMask := by
  unfold State.reportArrives
  try dsimp only
  (repeat' split) <;> simp

@[simp] theorem State.expire_frame (s : State) (k : Nat) :
    (s.expire k).pending = s.pending ∧ (s.expire k).clock = s.clock
    ∧ (s.expire k).startUnit = s.startUnit
    ∧ (s.expire k).tracker = s.tracker ∧ (s.expire k).draw = s.draw ∧ (s.expire k).handler = s.handler
    ∧ (s.expire k).control.evaluations = s.control.evaluations
    ∧ (s.expire k).balance.result = s.balance.result ∧ (s.expire k).drive.sum = s.drive.sum
    ∧ (s.expire k).drive.count = s.drive.count ∧ (s.expire k).drive.held = s.drive.held
    ∧ (s.expire k).drive.staleRun = s.drive.staleRun ∧ (s.expire k).drive.ready = s.drive.ready
    ∧ (s.expire k).drive.lastWord = s.drive.lastWord ∧ (s.expire k).drive.frame = s.drive.frame
    ∧ (s.expire k).drive.opened = s.drive.opened ∧ (s.expire k).drive.sending = s.drive.sending
    ∧ (s.expire k).drive.discards = s.drive.discards ∧ (s.expire k).drive.framesTaken = s.drive.framesTaken
    ∧ (s.expire k).line.step = s.line.step ∧ (s.expire k).line.badRun = s.line.badRun
    ∧ (s.expire k).line.sequence = s.line.sequence ∧ (s.expire k).line.goodFrames = s.line.goodFrames
    ∧ (s.expire k).line.badFrames = s.line.badFrames ∧ (s.expire k).line.reportsSent = s.line.reportsSent
    ∧ (s.expire k).excitation.pattern = s.excitation.pattern
    ∧ (s.expire k).excitation.stepIndex = s.excitation.stepIndex
    ∧ (s.expire k).excitation.position = s.excitation.position
    ∧ (s.expire k).excitation.baseline = s.excitation.baseline
    ∧ (s.expire k).excitation.count = s.excitation.count
    ∧ (s.expire k).excitation.limitPosted = s.excitation.limitPosted
    ∧ (s.expire k).fault.classMap = s.fault.classMap ∧ (s.expire k).fault.detectMask = s.fault.detectMask
    ∧ (s.expire k).fault.signalMask = s.fault.signalMask := by
  unfold State.expire
  try dsimp only
  (repeat' split) <;> simp

@[simp] theorem State.loseStep_frame (s : State) :
    (s.loseStep).pending = s.pending ∧ (s.loseStep).clock = s.clock ∧ (s.loseStep).startUnit = s.startUnit
    ∧ (s.loseStep).tracker = s.tracker ∧ (s.loseStep).drive = s.drive ∧ (s.loseStep).line = s.line
    ∧ (s.loseStep).balance = s.balance ∧ (s.loseStep).control = s.control ∧ (s.loseStep).draw = s.draw
    ∧ (s.loseStep).excitation = s.excitation ∧ (s.loseStep).fault = s.fault ∧ (s.loseStep).handler = s.handler := by
  simp [State.loseStep]


/-! ### The tracker and the drive link -/

@[simp] theorem State.gateEnd_frame (s : State) :
    (s.gateEnd).pending = s.pending ∧ (s.gateEnd).clock = s.clock ∧ (s.gateEnd).startUnit = s.startUnit
    ∧ (s.gateEnd).peers = s.peers ∧ (s.gateEnd).draw = s.draw ∧ (s.gateEnd).observation = s.observation
    ∧ (s.gateEnd).handler = s.handler ∧ (s.gateEnd).control.evaluations = s.control.evaluations
    ∧ (s.gateEnd).balance.result = s.balance.result ∧ (s.gateEnd).drive.sum = s.drive.sum
    ∧ (s.gateEnd).drive.count = s.drive.count ∧ (s.gateEnd).drive.held = s.drive.held
    ∧ (s.gateEnd).drive.staleRun = s.drive.staleRun ∧ (s.gateEnd).drive.ready = s.drive.ready
    ∧ (s.gateEnd).drive.lastWord = s.drive.lastWord ∧ (s.gateEnd).drive.frame = s.drive.frame
    ∧ (s.gateEnd).drive.opened = s.drive.opened ∧ (s.gateEnd).drive.sending = s.drive.sending
    ∧ (s.gateEnd).drive.discards = s.drive.discards ∧ (s.gateEnd).drive.framesTaken = s.drive.framesTaken
    ∧ (s.gateEnd).line.step = s.line.step ∧ (s.gateEnd).line.badRun = s.line.badRun
    ∧ (s.gateEnd).line.sequence = s.line.sequence ∧ (s.gateEnd).line.goodFrames = s.line.goodFrames
    ∧ (s.gateEnd).line.badFrames = s.line.badFrames ∧ (s.gateEnd).line.reportsSent = s.line.reportsSent
    ∧ (s.gateEnd).excitation.pattern = s.excitation.pattern
    ∧ (s.gateEnd).excitation.stepIndex = s.excitation.stepIndex
    ∧ (s.gateEnd).excitation.position = s.excitation.position
    ∧ (s.gateEnd).excitation.baseline = s.excitation.baseline
    ∧ (s.gateEnd).excitation.count = s.excitation.count
    ∧ (s.gateEnd).excitation.limitPosted = s.excitation.limitPosted
    ∧ (s.gateEnd).fault.classMap = s.fault.classMap ∧ (s.gateEnd).fault.detectMask = s.fault.detectMask
    ∧ (s.gateEnd).fault.signalMask = s.fault.signalMask := by
  unfold State.gateEnd
  try dsimp only
  (repeat' split) <;> simp

@[simp] theorem State.offerTorque_frame (s : State) (w : Int) (r : Bool) :
    (s.offerTorque w r).pending = s.pending ∧ (s.offerTorque w r).clock = s.clock
    ∧ (s.offerTorque w r).startUnit = s.startUnit ∧ (s.offerTorque w r).tracker = s.tracker
    ∧ (s.offerTorque w r).peers = s.peers ∧ (s.offerTorque w r).draw = s.draw
    ∧ (s.offerTorque w r).observation = s.observation ∧ (s.offerTorque w r).handler = s.handler
    ∧ (s.offerTorque w r).control.evaluations = s.control.evaluations
    ∧ (s.offerTorque w r).balance.result = s.balance.result ∧ (s.offerTorque w r).drive.held = s.drive.held
    ∧ (s.offerTorque w r).drive.staleRun = s.drive.staleRun
    ∧ (s.offerTorque w r).drive.lastWord = s.drive.lastWord ∧ (s.offerTorque w r).drive.frame = s.drive.frame
    ∧ (s.offerTorque w r).drive.opened = s.drive.opened ∧ (s.offerTorque w r).drive.sending = s.drive.sending
    ∧ (s.offerTorque w r).line.step = s.line.step ∧ (s.offerTorque w r).line.badRun = s.line.badRun
    ∧ (s.offerTorque w r).line.sequence = s.line.sequence
    ∧ (s.offerTorque w r).line.goodFrames = s.line.goodFrames
    ∧ (s.offerTorque w r).line.badFrames = s.line.badFrames
    ∧ (s.offerTorque w r).line.reportsSent = s.line.reportsSent
    ∧ (s.offerTorque w r).excitation.pattern = s.excitation.pattern
    ∧ (s.offerTorque w r).excitation.stepIndex = s.excitation.stepIndex
    ∧ (s.offerTorque w r).excitation.position = s.excitation.position
    ∧ (s.offerTorque w r).excitation.baseline = s.excitation.baseline
    ∧ (s.offerTorque w r).excitation.count = s.excitation.count
    ∧ (s.offerTorque w r).excitation.limitPosted = s.excitation.limitPosted
    ∧ (s.offerTorque w r).fault.classMap = s.fault.classMap
    ∧ (s.offerTorque w r).fault.detectMask = s.fault.detectMask
    ∧ (s.offerTorque w r).fault.signalMask = s.fault.signalMask := by
  unfold State.offerTorque
  try dsimp only
  (repeat' split) <;> simp

@[simp] theorem State.staleNotice_frame (s : State) (m : Mode) :
    (s.staleNotice m).pending = s.pending ∧ (s.staleNotice m).clock = s.clock
    ∧ (s.staleNotice m).startUnit = s.startUnit ∧ (s.staleNotice m).tracker = s.tracker
    ∧ (s.staleNotice m).peers = s.peers ∧ (s.staleNotice m).draw = s.draw
    ∧ (s.staleNotice m).observation = s.observation ∧ (s.staleNotice m).handler = s.handler
    ∧ (s.staleNotice m).control.evaluations = s.control.evaluations
    ∧ (s.staleNotice m).balance.result = s.balance.result ∧ (s.staleNotice m).drive.sum = s.drive.sum
    ∧ (s.staleNotice m).drive.count = s.drive.count ∧ (s.staleNotice m).drive.held = s.drive.held
    ∧ (s.staleNotice m).drive.staleRun = s.drive.staleRun ∧ (s.staleNotice m).drive.ready = s.drive.ready
    ∧ (s.staleNotice m).drive.lastWord = s.drive.lastWord ∧ (s.staleNotice m).drive.frame = s.drive.frame
    ∧ (s.staleNotice m).drive.opened = s.drive.opened ∧ (s.staleNotice m).drive.sending = s.drive.sending
    ∧ (s.staleNotice m).drive.discards = s.drive.discards
    ∧ (s.staleNotice m).drive.framesTaken = s.drive.framesTaken ∧ (s.staleNotice m).line.step = s.line.step
    ∧ (s.staleNotice m).line.badRun = s.line.badRun ∧ (s.staleNotice m).line.sequence = s.line.sequence
    ∧ (s.staleNotice m).line.goodFrames = s.line.goodFrames
    ∧ (s.staleNotice m).line.badFrames = s.line.badFrames
    ∧ (s.staleNotice m).line.reportsSent = s.line.reportsSent
    ∧ (s.staleNotice m).excitation.pattern = s.excitation.pattern
    ∧ (s.staleNotice m).excitation.stepIndex = s.excitation.stepIndex
    ∧ (s.staleNotice m).excitation.position = s.excitation.position
    ∧ (s.staleNotice m).excitation.baseline = s.excitation.baseline
    ∧ (s.staleNotice m).excitation.count = s.excitation.count
    ∧ (s.staleNotice m).excitation.limitPosted = s.excitation.limitPosted
    ∧ (s.staleNotice m).fault.classMap = s.fault.classMap
    ∧ (s.staleNotice m).fault.detectMask = s.fault.detectMask
    ∧ (s.staleNotice m).fault.signalMask = s.fault.signalMask := by
  unfold State.staleNotice
  try dsimp only
  (repeat' split) <;> simp


/-! ### Works of an evaluation -/

@[simp] theorem State.balanceWork_frame (s : State) :
    (s.balanceWork).pending = s.pending ∧ (s.balanceWork).clock = s.clock
    ∧ (s.balanceWork).startUnit = s.startUnit ∧ (s.balanceWork).tracker = s.tracker
    ∧ (s.balanceWork).peers = s.peers ∧ (s.balanceWork).draw = s.draw
    ∧ (s.balanceWork).observation = s.observation ∧ (s.balanceWork).handler = s.handler
    ∧ (s.balanceWork).control.evaluations = s.control.evaluations ∧ (s.balanceWork).drive.sum = s.drive.sum
    ∧ (s.balanceWork).drive.count = s.drive.count ∧ (s.balanceWork).drive.held = s.drive.held
    ∧ (s.balanceWork).drive.staleRun = s.drive.staleRun ∧ (s.balanceWork).drive.ready = s.drive.ready
    ∧ (s.balanceWork).drive.lastWord = s.drive.lastWord ∧ (s.balanceWork).drive.frame = s.drive.frame
    ∧ (s.balanceWork).drive.opened = s.drive.opened ∧ (s.balanceWork).drive.sending = s.drive.sending
    ∧ (s.balanceWork).drive.discards = s.drive.discards
    ∧ (s.balanceWork).drive.framesTaken = s.drive.framesTaken ∧ (s.balanceWork).line.step = s.line.step
    ∧ (s.balanceWork).line.badRun = s.line.badRun ∧ (s.balanceWork).line.sequence = s.line.sequence
    ∧ (s.balanceWork).line.goodFrames = s.line.goodFrames ∧ (s.balanceWork).line.badFrames = s.line.badFrames
    ∧ (s.balanceWork).line.reportsSent = s.line.reportsSent
    ∧ (s.balanceWork).excitation.pattern = s.excitation.pattern
    ∧ (s.balanceWork).excitation.stepIndex = s.excitation.stepIndex
    ∧ (s.balanceWork).excitation.position = s.excitation.position
    ∧ (s.balanceWork).excitation.baseline = s.excitation.baseline
    ∧ (s.balanceWork).excitation.count = s.excitation.count
    ∧ (s.balanceWork).excitation.limitPosted = s.excitation.limitPosted
    ∧ (s.balanceWork).fault.classMap = s.fault.classMap ∧ (s.balanceWork).fault.detectMask = s.fault.detectMask
    ∧ (s.balanceWork).fault.signalMask = s.fault.signalMask := by
  unfold State.balanceWork
  try dsimp only
  (repeat' split) <;> simp

@[simp] theorem State.fadeStep_frame (s : State) :
    (s.fadeStep).pending = s.pending ∧ (s.fadeStep).clock = s.clock ∧ (s.fadeStep).startUnit = s.startUnit
    ∧ (s.fadeStep).tracker = s.tracker ∧ (s.fadeStep).peers = s.peers ∧ (s.fadeStep).draw = s.draw
    ∧ (s.fadeStep).excitation = s.excitation ∧ (s.fadeStep).observation = s.observation
    ∧ (s.fadeStep).fault = s.fault ∧ (s.fadeStep).handler = s.handler
    ∧ (s.fadeStep).control.evaluations = s.control.evaluations ∧ (s.fadeStep).balance.result = s.balance.result
    ∧ (s.fadeStep).drive.sum = s.drive.sum ∧ (s.fadeStep).drive.count = s.drive.count
    ∧ (s.fadeStep).drive.held = s.drive.held ∧ (s.fadeStep).drive.staleRun = s.drive.staleRun
    ∧ (s.fadeStep).drive.ready = s.drive.ready ∧ (s.fadeStep).drive.lastWord = s.drive.lastWord
    ∧ (s.fadeStep).drive.frame = s.drive.frame
    ∧ (s.fadeStep).drive.opened = s.drive.opened ∧ (s.fadeStep).drive.sending = s.drive.sending
    ∧ (s.fadeStep).drive.discards = s.drive.discards
    ∧ (s.fadeStep).drive.framesTaken = s.drive.framesTaken ∧ (s.fadeStep).line.step = s.line.step
    ∧ (s.fadeStep).line.badRun = s.line.badRun ∧ (s.fadeStep).line.sequence = s.line.sequence
    ∧ (s.fadeStep).line.goodFrames = s.line.goodFrames ∧ (s.fadeStep).line.badFrames = s.line.badFrames
    ∧ (s.fadeStep).line.reportsSent = s.line.reportsSent := by
  unfold State.fadeStep
  try dsimp only
  (repeat' split) <;> simp

@[simp] theorem State.drawWork_frame (s : State) :
    (s.drawWork).pending = s.pending ∧ (s.drawWork).clock = s.clock ∧ (s.drawWork).startUnit = s.startUnit
    ∧ (s.drawWork).tracker = s.tracker ∧ (s.drawWork).peers = s.peers
    ∧ (s.drawWork).observation = s.observation ∧ (s.drawWork).handler = s.handler
    ∧ (s.drawWork).control.evaluations = s.control.evaluations ∧ (s.drawWork).balance.result = s.balance.result
    ∧ (s.drawWork).drive.sum = s.drive.sum ∧ (s.drawWork).drive.count = s.drive.count
    ∧ (s.drawWork).drive.held = s.drive.held ∧ (s.drawWork).drive.staleRun = s.drive.staleRun
    ∧ (s.drawWork).drive.ready = s.drive.ready ∧ (s.drawWork).drive.lastWord = s.drive.lastWord
    ∧ (s.drawWork).drive.frame = s.drive.frame
    ∧ (s.drawWork).drive.opened = s.drive.opened ∧ (s.drawWork).drive.sending = s.drive.sending
    ∧ (s.drawWork).drive.discards = s.drive.discards
    ∧ (s.drawWork).drive.framesTaken = s.drive.framesTaken ∧ (s.drawWork).line.step = s.line.step
    ∧ (s.drawWork).line.badRun = s.line.badRun ∧ (s.drawWork).line.sequence = s.line.sequence
    ∧ (s.drawWork).line.goodFrames = s.line.goodFrames ∧ (s.drawWork).line.badFrames = s.line.badFrames
    ∧ (s.drawWork).line.reportsSent = s.line.reportsSent
    ∧ (s.drawWork).excitation.pattern = s.excitation.pattern
    ∧ (s.drawWork).excitation.stepIndex = s.excitation.stepIndex
    ∧ (s.drawWork).excitation.position = s.excitation.position
    ∧ (s.drawWork).excitation.baseline = s.excitation.baseline
    ∧ (s.drawWork).excitation.count = s.excitation.count
    ∧ (s.drawWork).excitation.limitPosted = s.excitation.limitPosted
    ∧ (s.drawWork).fault.classMap = s.fault.classMap ∧ (s.drawWork).fault.detectMask = s.fault.detectMask
    ∧ (s.drawWork).fault.signalMask = s.fault.signalMask := by
  unfold State.drawWork
  try dsimp only
  (repeat' split) <;> simp

@[simp] theorem State.runStep_frame (s : State) (p : Pattern) :
    (s.runStep p).pending = s.pending ∧ (s.runStep p).clock = s.clock ∧ (s.runStep p).startUnit = s.startUnit
    ∧ (s.runStep p).tracker = s.tracker ∧ (s.runStep p).peers = s.peers ∧ (s.runStep p).draw = s.draw
    ∧ (s.runStep p).observation = s.observation ∧ (s.runStep p).fault = s.fault
    ∧ (s.runStep p).handler = s.handler ∧ (s.runStep p).control.evaluations = s.control.evaluations
    ∧ (s.runStep p).balance.result = s.balance.result ∧ (s.runStep p).drive.sum = s.drive.sum
    ∧ (s.runStep p).drive.count = s.drive.count ∧ (s.runStep p).drive.held = s.drive.held
    ∧ (s.runStep p).drive.staleRun = s.drive.staleRun ∧ (s.runStep p).drive.ready = s.drive.ready
    ∧ (s.runStep p).drive.lastWord = s.drive.lastWord ∧ (s.runStep p).drive.frame = s.drive.frame
    ∧ (s.runStep p).drive.opened = s.drive.opened ∧ (s.runStep p).drive.sending = s.drive.sending
    ∧ (s.runStep p).drive.discards = s.drive.discards ∧ (s.runStep p).drive.framesTaken = s.drive.framesTaken
    ∧ (s.runStep p).line.step = s.line.step ∧ (s.runStep p).line.badRun = s.line.badRun
    ∧ (s.runStep p).line.sequence = s.line.sequence ∧ (s.runStep p).line.goodFrames = s.line.goodFrames
    ∧ (s.runStep p).line.badFrames = s.line.badFrames ∧ (s.runStep p).line.reportsSent = s.line.reportsSent := by
  unfold State.runStep
  try dsimp only
  (repeat' split) <;> simp

@[simp] theorem State.excitationWork_frame (s : State) :
    (s.excitationWork).pending = s.pending ∧ (s.excitationWork).clock = s.clock
    ∧ (s.excitationWork).startUnit = s.startUnit ∧ (s.excitationWork).tracker = s.tracker
    ∧ (s.excitationWork).peers = s.peers ∧ (s.excitationWork).draw = s.draw
    ∧ (s.excitationWork).observation = s.observation ∧ (s.excitationWork).handler = s.handler
    ∧ (s.excitationWork).control.evaluations = s.control.evaluations
    ∧ (s.excitationWork).balance.result = s.balance.result ∧ (s.excitationWork).drive.sum = s.drive.sum
    ∧ (s.excitationWork).drive.count = s.drive.count ∧ (s.excitationWork).drive.held = s.drive.held
    ∧ (s.excitationWork).drive.staleRun = s.drive.staleRun ∧ (s.excitationWork).drive.ready = s.drive.ready
    ∧ (s.excitationWork).drive.lastWord = s.drive.lastWord ∧ (s.excitationWork).drive.frame = s.drive.frame
    ∧ (s.excitationWork).drive.opened = s.drive.opened ∧ (s.excitationWork).drive.sending = s.drive.sending
    ∧ (s.excitationWork).drive.discards = s.drive.discards
    ∧ (s.excitationWork).drive.framesTaken = s.drive.framesTaken ∧ (s.excitationWork).line.step = s.line.step
    ∧ (s.excitationWork).line.badRun = s.line.badRun ∧ (s.excitationWork).line.sequence = s.line.sequence
    ∧ (s.excitationWork).line.goodFrames = s.line.goodFrames
    ∧ (s.excitationWork).line.badFrames = s.line.badFrames
    ∧ (s.excitationWork).line.reportsSent = s.line.reportsSent
    ∧ (s.excitationWork).fault.classMap = s.fault.classMap
    ∧ (s.excitationWork).fault.detectMask = s.fault.detectMask
    ∧ (s.excitationWork).fault.signalMask = s.fault.signalMask := by
  unfold State.excitationWork
  try dsimp only
  (repeat' split) <;> simp

@[simp] theorem State.work_frame (s : State) (m : Mode) (w : EvalWork) :
    (State.work m s w).pending = s.pending ∧ (State.work m s w).clock = s.clock
    ∧ (State.work m s w).startUnit = s.startUnit ∧ (State.work m s w).tracker = s.tracker
    ∧ (State.work m s w).handler = s.handler ∧ (State.work m s w).fault.classMap = s.fault.classMap
    ∧ (State.work m s w).fault.detectMask = s.fault.detectMask
    ∧ (State.work m s w).fault.signalMask = s.fault.signalMask
    ∧ (State.work m s w).control.evaluations = s.control.evaluations
    ∧ (State.work m s w).line.step = s.line.step ∧ (State.work m s w).line.badRun = s.line.badRun
    ∧ (State.work m s w).line.sequence = s.line.sequence
    ∧ (State.work m s w).line.goodFrames = s.line.goodFrames
    ∧ (State.work m s w).line.badFrames = s.line.badFrames
    ∧ (State.work m s w).line.reportsSent = s.line.reportsSent := by
  cases w <;> simp [State.work]

@[simp] theorem State.fillSlot_frame (s : State) :
    (s.fillSlot).pending = s.pending ∧ (s.fillSlot).clock = s.clock ∧ (s.fillSlot).startUnit = s.startUnit
    ∧ (s.fillSlot).tracker = s.tracker ∧ (s.fillSlot).drive = s.drive ∧ (s.fillSlot).peers = s.peers
    ∧ (s.fillSlot).balance = s.balance ∧ (s.fillSlot).control = s.control ∧ (s.fillSlot).draw = s.draw
    ∧ (s.fillSlot).excitation = s.excitation ∧ (s.fillSlot).observation = s.observation
    ∧ (s.fillSlot).fault = s.fault ∧ (s.fillSlot).handler = s.handler ∧ (s.fillSlot).line.step = s.line.step
    ∧ (s.fillSlot).line.badRun = s.line.badRun ∧ (s.fillSlot).line.sequence = s.line.sequence
    ∧ (s.fillSlot).line.goodFrames = s.line.goodFrames ∧ (s.fillSlot).line.badFrames = s.line.badFrames
    ∧ (s.fillSlot).line.reportsSent = s.line.reportsSent := by
  unfold State.fillSlot
  try dsimp only
  (repeat' split) <;> simp


/-! ### The section line -/

@[simp] theorem State.judgeBad_frame (s : State) :
    (s.judgeBad).pending = s.pending ∧ (s.judgeBad).clock = s.clock ∧ (s.judgeBad).startUnit = s.startUnit
    ∧ (s.judgeBad).tracker = s.tracker ∧ (s.judgeBad).draw = s.draw ∧ (s.judgeBad).handler = s.handler
    ∧ (s.judgeBad).control.evaluations = s.control.evaluations ∧ (s.judgeBad).balance.result = s.balance.result
    ∧ (s.judgeBad).drive.sum = s.drive.sum ∧ (s.judgeBad).drive.count = s.drive.count
    ∧ (s.judgeBad).drive.held = s.drive.held ∧ (s.judgeBad).drive.staleRun = s.drive.staleRun
    ∧ (s.judgeBad).drive.ready = s.drive.ready ∧ (s.judgeBad).drive.lastWord = s.drive.lastWord
    ∧ (s.judgeBad).drive.frame = s.drive.frame
    ∧ (s.judgeBad).drive.opened = s.drive.opened ∧ (s.judgeBad).drive.sending = s.drive.sending
    ∧ (s.judgeBad).drive.discards = s.drive.discards
    ∧ (s.judgeBad).drive.framesTaken = s.drive.framesTaken ∧ (s.judgeBad).line.sequence = s.line.sequence
    ∧ (s.judgeBad).line.goodFrames = s.line.goodFrames ∧ (s.judgeBad).line.reportsSent = s.line.reportsSent
    ∧ (s.judgeBad).excitation.pattern = s.excitation.pattern
    ∧ (s.judgeBad).excitation.stepIndex = s.excitation.stepIndex
    ∧ (s.judgeBad).excitation.position = s.excitation.position
    ∧ (s.judgeBad).excitation.baseline = s.excitation.baseline
    ∧ (s.judgeBad).excitation.count = s.excitation.count
    ∧ (s.judgeBad).excitation.limitPosted = s.excitation.limitPosted
    ∧ (s.judgeBad).fault.classMap = s.fault.classMap ∧ (s.judgeBad).fault.detectMask = s.fault.detectMask
    ∧ (s.judgeBad).fault.signalMask = s.fault.signalMask := by
  unfold State.judgeBad
  try dsimp only
  (repeat' split) <;> simp

@[simp] theorem State.endAttempt_frame (s : State) (r : RxState) :
    (s.endAttempt r).pending = s.pending ∧ (s.endAttempt r).clock = s.clock
    ∧ (s.endAttempt r).startUnit = s.startUnit ∧ (s.endAttempt r).tracker = s.tracker
    ∧ (s.endAttempt r).drive = s.drive ∧ (s.endAttempt r).peers = s.peers
    ∧ (s.endAttempt r).balance = s.balance ∧ (s.endAttempt r).control = s.control
    ∧ (s.endAttempt r).draw = s.draw ∧ (s.endAttempt r).excitation = s.excitation
    ∧ (s.endAttempt r).observation = s.observation ∧ (s.endAttempt r).fault = s.fault
    ∧ (s.endAttempt r).handler = s.handler ∧ (s.endAttempt r).line.step = s.line.step
    ∧ (s.endAttempt r).line.badRun = s.line.badRun ∧ (s.endAttempt r).line.sequence = s.line.sequence
    ∧ (s.endAttempt r).line.goodFrames = s.line.goodFrames ∧ (s.endAttempt r).line.badFrames = s.line.badFrames
    ∧ (s.endAttempt r).line.reportsSent = s.line.reportsSent := by
  simp [State.endAttempt]

@[simp] theorem State.winContention_frame (s : State) :
    (s.winContention).pending = s.pending ∧ (s.winContention).clock = s.clock
    ∧ (s.winContention).startUnit = s.startUnit ∧ (s.winContention).tracker = s.tracker
    ∧ (s.winContention).drive = s.drive ∧ (s.winContention).peers = s.peers
    ∧ (s.winContention).balance = s.balance ∧ (s.winContention).control = s.control
    ∧ (s.winContention).draw = s.draw ∧ (s.winContention).excitation = s.excitation
    ∧ (s.winContention).observation = s.observation ∧ (s.winContention).fault = s.fault
    ∧ (s.winContention).handler = s.handler ∧ (s.winContention).line.step = s.line.step
    ∧ (s.winContention).line.badRun = s.line.badRun ∧ (s.winContention).line.sequence = s.line.sequence
    ∧ (s.winContention).line.goodFrames = s.line.goodFrames
    ∧ (s.winContention).line.badFrames = s.line.badFrames
    ∧ (s.winContention).line.reportsSent = s.line.reportsSent := by
  unfold State.winContention
  try dsimp only
  (repeat' split) <;> simp

/-- All that the begin of an attempt can do (R37, R40, R43). -/
theorem State.beginAttempt_cases (s : State) :
    s.beginAttempt = s
      ∨ ∃ a, s.chooseAttempt = some a ∧ s.control.mode.lineOn = true ∧ s.line.rx = .ready ∧ s.line.attempt = none
          ∧ s.beginAttempt =
            { s with line :=
                { s.line with attempt := some a, tx := .contending, rx := .receiving, refill := false } } := by
  unfold State.beginAttempt
  split
  · rename_i h
    split
    · rename_i a ha; exact .inr ⟨a, ha, h.1, h.2.1, h.2.2, rfl⟩
    · exact .inl rfl
  · exact .inl rfl

/-- All that an ANSWER sent whole can do: nothing, the soft reset, or an end of the attempt with the answer gone from
the queue (R44, R189). -/
theorem State.answerDone_cases (s : State) :
    s.answerDone = s
      ∨ (s.attempting .answer = true ∧ ∃ a rest, s.handler.queue = a :: rest
          ∧ s.answerDone =
            (if a.resets then s.softReset
             else State.endAttempt { s with handler := { s.handler with queue := rest } } .waitIdle))
      ∨ (s.attempting .answer = true ∧ s.handler.queue = [] ∧ s.answerDone = s.endAttempt .waitIdle) := by
  unfold State.answerDone
  split
  · rename_i h
    split
    · rename_i a rest hq; exact .inr (.inl ⟨h, a, rest, hq, rfl⟩)
    · rename_i hq; exact .inr (.inr ⟨h, hq, rfl⟩)
  · exact .inl rfl

end Sys2Proof.Machine
end

