-- ==== Sys2Proof/Laws/Directives.lean ====
section
/-! SUPPORT. What a directive does once its frame is good: the one lemma per way it can be taken (R175, R177). -/

namespace Sys2Proof.Machine

theorem frameClass_contention (cls : BitVec 2) (station : BitVec 6) :
    frameClass (contention cls station) = cls.toNat := by
  simp only [frameClass, contention, BitVec.toNat_append, Nat.shiftLeft_eq]
  rw [← Nat.shiftLeft_eq, ← Nat.shiftLeft_add_eq_or_of_lt station.isLt, Nat.shiftLeft_eq]
  omega

theorem frameStation_contention (cls : BitVec 2) (station : BitVec 6) :
    frameStation (contention cls station) = station.toNat := by
  simp only [frameStation, contention, BitVec.toNat_append]
  rw [← Nat.shiftLeft_add_eq_or_of_lt station.isLt, Nat.shiftLeft_eq]
  have := station.isLt
  omega

/-- A receiver that is open takes frames. -/
theorem State.Open.canReceive {s : State} (h : s.Open) : s.canReceive = true := by
  obtain ⟨h1, h2 | h2⟩ := h <;> simp [State.canReceive, h1, h2]

theorem State.countGood_eq (s : State) (moment : Nat) : s.countGood moment = s.heard moment := rfl

theorem State.tookDirective_eq (s : State) (h : DirectiveHead) :
    (s.heard h.moment).countDirective = s.tookDirective h := rfl

/-- What counting a good frame leaves as it was. -/
@[simp] theorem State.heard_frame (s : State) (m : Nat) :
    (s.heard m).pending = s.pending ∧ (s.heard m).startUnit = s.startUnit ∧ (s.heard m).tracker = s.tracker
      ∧ (s.heard m).drive = s.drive ∧ (s.heard m).peers = s.peers ∧ (s.heard m).balance = s.balance
      ∧ (s.heard m).control = s.control ∧ (s.heard m).draw = s.draw ∧ (s.heard m).excitation = s.excitation
      ∧ (s.heard m).observation = s.observation ∧ (s.heard m).fault = s.fault ∧ (s.heard m).handler = s.handler
      ∧ (s.heard m).clock = max s.clock m ∧ (s.heard m).image = s.image ∧ (s.heard m).own = s.own
      ∧ (s.heard m).line.attempt = s.line.attempt ∧ (s.heard m).line.reportDue = s.line.reportDue
      ∧ (s.heard m).line.refill = s.line.refill ∧ (s.heard m).line.tx = s.line.tx
      ∧ (∀ k, (s.heard m).peer k = s.peer k) ∧ (∀ k, (s.heard m).isKey k = s.isKey k) :=
  ⟨rfl, rfl, rfl, rfl, rfl, rfl, rfl, rfl, rfl, rfl, rfl, rfl, rfl, rfl, rfl, rfl, rfl, rfl, rfl, fun _ => rfl,
    fun _ => rfl⟩

/-- What counting a directive as taken leaves as it was. -/
@[simp] theorem State.tookDirective_frame (s : State) (h : DirectiveHead) :
    (s.tookDirective h).pending = s.pending ∧ (s.tookDirective h).startUnit = s.startUnit
      ∧ (s.tookDirective h).tracker = s.tracker ∧ (s.tookDirective h).drive = s.drive
      ∧ (s.tookDirective h).peers = s.peers ∧ (s.tookDirective h).balance = s.balance
      ∧ (s.tookDirective h).control = s.control ∧ (s.tookDirective h).draw = s.draw
      ∧ (s.tookDirective h).excitation = s.excitation ∧ (s.tookDirective h).observation = s.observation
      ∧ (s.tookDirective h).fault = s.fault ∧ (s.tookDirective h).clock = max s.clock h.moment
      ∧ (s.tookDirective h).image = s.image ∧ (s.tookDirective h).own = s.own
      ∧ (s.tookDirective h).line.attempt = s.line.attempt ∧ (s.tookDirective h).line.reportDue = s.line.reportDue
      ∧ (s.tookDirective h).line.refill = s.line.refill ∧ (s.tookDirective h).line.tx = s.line.tx
      ∧ (s.tookDirective h).handler.queue = s.handler.queue ∧ (s.tookDirective h).handler.tuning = s.handler.tuning
      ∧ (s.tookDirective h).handler.taken = s.handler.taken + 1
      ∧ (s.tookDirective h).handler.dropped = s.handler.dropped
      ∧ (s.tookDirective h).handler.snapshot = s.handler.snapshot
      ∧ (∀ k, (s.tookDirective h).peer k = s.peer k) ∧ (∀ k, (s.tookDirective h).isKey k = s.isKey k) :=
  ⟨rfl, rfl, rfl, rfl, rfl, rfl, rfl, rfl, rfl, rfl, rfl, rfl, rfl, rfl, rfl, rfl, rfl, rfl, rfl, rfl, rfl, rfl, rfl,
    fun _ => rfl, fun _ => rfl⟩

/-- A DIRECTIVE frame is never the node's own (R31). -/
theorem State.isOwnFrame_directive (s : State) (terminal : BitVec 6) (payload : List Byte) :
    s.isOwnFrame (contention 0 terminal) payload = false := by
  simp [State.isOwnFrame, frameClass_contention]

/-- With no attempt in progress no frame is the node's own (R31). -/
theorem State.isOwnFrame_none {s : State} (h : s.line.attempt = none) (c : Byte) (payload : List Byte) :
    s.isOwnFrame c payload = false := by
  simp [State.isOwnFrame, h]

/-- A DIRECTIVE frame from a terminal, with at most fifteen argument characters, reaches the handler. -/
theorem State.receiveDirective_open {s : State} {h : DirectiveHead} {args : List Byte} (kind : Byte) (ho : s.Open)
    (ht : 60 ≤ h.terminal.toNat) (hn : args.length ≤ 15) :
    s.receiveDirective h kind args
      = (s.heard h.moment).directive (contention 0 h.terminal) (h.target :: h.tag :: kind :: args) := by
  have h1 : contentionOk (contention 0 h.terminal) = true := by
    simp [contentionOk, frameClass_contention, frameStation_contention, ht]
  have h2 : lengthOk (contention 0 h.terminal) (args.length + 3) = true := by
    simp [lengthOk, frameClass_contention]; omega
  have h3 : lengthOk (contention 0 h.terminal) (h.target :: h.tag :: kind :: args).length = true := h2
  rw [State.receiveDirective, State.receive, if_pos ⟨ho.canReceive, s.isOwnFrame_directive _ _⟩,
    if_pos ⟨h1, h3⟩, State.route, frameClass_contention]
  rfl

/-- The answer's place in the queue while the line works; an attempt in progress goes on (R37, R40). -/
theorem State.enqueue_answered (t : State) (h : DirectiveHead) (o : AnswerOutcome) (data : List Byte) (resets : Bool)
    (hm : t.control.mode.lineOn = true) :
    t.enqueue { terminal := contention 0 h.terminal, tag := h.tag, outcome := o, data := data, resets := resets }
      = t.answered h o data resets := by
  cases ha : t.line.attempt with
  | none => simp [State.enqueue, State.settleTx, ha, hm, State.somethingToSend, State.answered]
  | some a => simp [State.enqueue, State.settleTx, ha, State.answered]; rw [← ha]

/-- A directive that is taken is counted, carried out and answered once. -/
theorem State.receiveDirective_taken {s : State} {h : DirectiveHead} {args : List Byte} (kind : Byte)
    (ht : s.Takes h args.length) :
    s.receiveDirective h kind args
      = ((s.tookDirective h).reply kind.toNat args).node.enqueue
          { terminal := contention 0 h.terminal, tag := h.tag
            outcome := ((s.tookDirective h).reply kind.toNat args).outcome
            data := ((s.tookDirective h).reply kind.toNat args).data
            resets := decide (kind = 9) } := by
  obtain ⟨ho, hterm, htgt, hq, hn⟩ := ht
  rw [State.receiveDirective_open kind ho hterm hn]
  have hown : h.target.toNat = (s.heard h.moment).own := htgt
  have hlen : (s.heard h.moment).handler.queue.length < Config.queueDepth := hq
  rw [State.directive, if_pos hown, if_pos hlen]
  rfl

/-- A directive that is taken and answered without another state having moved. -/
theorem State.receiveDirective_refused {s : State} {h : DirectiveHead} {args : List Byte} {kind : Byte}
    {o : AnswerOutcome} {data : List Byte} (ht : s.Takes h args.length)
    (hr : (s.tookDirective h).reply kind.toNat args = { outcome := o, data := data, node := s.tookDirective h }) :
    s.receiveDirective h kind args = (s.tookDirective h).answered h o data (decide (kind = 9)) := by
  rw [State.receiveDirective_taken kind ht, hr]
  exact State.enqueue_answered _ h o data _ ht.1.1

/-- A broadcast of any kind. -/
theorem State.receiveDirective_broadcast {s : State} {h : DirectiveHead} {args : List Byte} (kind : Byte)
    (ho : s.Open) (ht : 60 ≤ h.terminal.toNat) (h0 : h.target = 0) (hs : s.own ≠ 0) (hn : args.length ≤ 15) :
    s.receiveDirective h kind args = (s.heard h.moment).takeBroadcast kind := by
  rw [State.receiveDirective_open kind ho ht hn]
  have hown : ¬ (h.target.toNat = (s.heard h.moment).own) := by
    rw [h0]; exact fun e => hs e.symm
  rw [State.directive, if_neg hown, if_pos h0]

/-- An addressed directive that finds the queue full. -/
theorem State.receiveDirective_full {s : State} {h : DirectiveHead} {args : List Byte} (kind : Byte)
    (ho : s.Open) (ht : 60 ≤ h.terminal.toNat) (htgt : h.target.toNat = s.own) (hq : ¬ s.handler.queue.length < 4)
    (hn : args.length ≤ 15) :
    s.receiveDirective h kind args = (s.heard h.moment).dropDirective (contention 0 h.terminal) := by
  rw [State.receiveDirective_open kind ho ht hn]
  have hown : h.target.toNat = (s.heard h.moment).own := htgt
  have hlen : ¬ (s.heard h.moment).handler.queue.length < Config.queueDepth := hq
  rw [State.directive, if_pos hown, if_neg hlen]

/-- A directive for another station. -/
theorem State.receiveDirective_elsewhere {s : State} {h : DirectiveHead} {args : List Byte} (kind : Byte)
    (ho : s.Open) (ht : 60 ≤ h.terminal.toNat) (htgt : h.target.toNat ≠ s.own) (h0 : h.target ≠ 0)
    (hn : args.length ≤ 15) :
    s.receiveDirective h kind args = s.heard h.moment := by
  rw [State.receiveDirective_open kind ho ht hn]
  have hown : ¬ (h.target.toNat = (s.heard h.moment).own) := htgt
  rw [State.directive, if_neg hown, if_neg h0]

end Sys2Proof.Machine
end

