-- ==== Sys2Proof/Laws/Evaluation.lean ====
section
/-! SUPPORT. The order of an evaluation's works and the events before its frame, and what follows of all of them from
what holds of each (R95, R108). -/

namespace Sys2Proof.Machine

/-- The works are taken each exactly once. -/
theorem scheduleOf_perm (o : List EvalWork) : (scheduleOf o).Perm defaultOrder := by
  unfold scheduleOf
  split
  · rename_i h
    simp only [orderOk, Bool.and_eq_true, decide_eq_true_eq, List.all_eq_true, List.contains_iff_mem] at h
    obtain ⟨⟨⟨⟨hlen, hall⟩, -⟩, -⟩, -⟩ := h
    exact (List.Subperm.perm_of_length_le
      (List.subperm_of_subset (by decide : defaultOrder.Nodup) hall) (by rw [hlen]; decide)).symm
  · exact List.Perm.refl _

/-- The accumulator closes before the works that take this evaluation's torque mean and stale run. -/
theorem scheduleOf_before (o : List EvalWork) :
    comesBefore (scheduleOf o) .accumulatorClose .staleNotice = true
      ∧ comesBefore (scheduleOf o) .accumulatorClose .balanceEngine = true
      ∧ comesBefore (scheduleOf o) .accumulatorClose .couplingObserver = true := by
  unfold scheduleOf
  split
  · rename_i h
    simp only [orderOk, Bool.and_eq_true] at h
    exact ⟨h.1.1.2, h.1.2, h.2⟩
  · decide

/-- Every work is taken. -/
theorem mem_scheduleOf (o : List EvalWork) (w : EvalWork) : w ∈ scheduleOf o :=
  (scheduleOf_perm o).mem_iff.mpr (by cases w <;> decide)

/-- No work is taken twice. -/
theorem scheduleOf_nodup (o : List EvalWork) : (scheduleOf o).Nodup :=
  (scheduleOf_perm o).nodup_iff.mpr (by decide)

/-! ### The peer table's events within an evaluation -/

/-- With no event before or during a work, it is the work alone. -/
@[simp] theorem State.workDuring_nil (began : Mode) (s : State) (w : EvalWork) :
    State.workDuring began [] s w = s.work began w := by
  simp [State.workDuring, State.workSeeing]

/-- With no event within them, the works follow one another. -/
theorem State.runWorks_nil (s : State) (o : List EvalWork) :
    s.runWorks o = (scheduleOf o).foldl (State.work s.control.mode) s := by
  unfold State.runWorks
  congr 1

/-- An event of the peer table does what its own command does. -/
theorem State.takeTableEvent_command (s : State) (e : TableEvent) :
    exec
        (match e with
          | .report moment station payload => .reportArrival moment station payload
          | .badFrame => .badFrame
          | .faultyBitAbort => .faultyBitAbort
          | .watchdogExpiry due => .watchdogExpiry due) s
      = .next (s.takeTableEvent e) := by
  cases e <;> simp [exec, execReportArrival, execBadFrame, execFaultyBitAbort, execWatchdogExpiry,
    State.takeTableEvent]

/-- What every event keeps, the events before or during a work keep. -/
theorem State.takeInterruption_induct {P : State → Prop} {s : State} (l : List Interruption)
    (seen : List (Nat × PeerEntry)) (h : P s)
    (keeps : ∀ (e : TableEvent) (t : State), P t → P (t.takeTableEvent e)) :
    P (l.foldl State.takeInterruption (s, seen)).1 := by
  induction l generalizing s seen with
  | nil => exact h
  | cons i l ih => exact ih _ (keeps i.event s h)

/-- What every event and every work by any reading of the table keeps, the works of an evaluation keep. -/
theorem State.runWorks_during_induct {P : State → Prop} {s : State} (o : List EvalWork) (during : List Interruption)
    (h : P s) (event : ∀ (e : TableEvent) (t : State), P t → P (t.takeTableEvent e))
    (work : ∀ (w : EvalWork) (seen : List (Nat × PeerEntry)) (t : State), P t →
      P (State.workSeeing s.control.mode t seen w)) : P (s.runWorks o during) := by
  unfold State.runWorks
  generalize scheduleOf o = l
  generalize s.control.mode = m at work ⊢
  induction l generalizing s with
  | nil => exact h
  | cons w l ih => exact ih (work w _ _ (State.takeInterruption_induct _ _ h event))

/-! ### The works with no event within them -/

/-- What every work keeps, the works of an evaluation keep. -/
theorem State.runWorks_induct {P : State → Prop} {s : State} (o : List EvalWork) (h : P s)
    (keeps : ∀ (w : EvalWork) (t : State), P t → P (t.work s.control.mode w)) : P (s.runWorks o) := by
  rw [State.runWorks_nil]
  generalize scheduleOf o = l
  generalize s.control.mode = m at keeps ⊢
  induction l generalizing s with
  | nil => exact h
  | cons w l ih => exact ih (keeps w s h)

/-- What one work brings about and every other keeps, holds after the works of an evaluation. -/
theorem State.runWorks_reach {P Q : State → Prop} {s : State} (o : List EvalWork) (w : EvalWork) (h : P s)
    (before : ∀ (v : EvalWork) (t : State), v ≠ w → P t → P (t.work s.control.mode v))
    (here : ∀ t : State, P t → Q (t.work s.control.mode w))
    (later : ∀ (v : EvalWork) (t : State), v ≠ w → Q t → Q (t.work s.control.mode v)) : Q (s.runWorks o) := by
  rw [State.runWorks_nil]
  have hm := mem_scheduleOf o w
  have hn := scheduleOf_nodup o
  generalize scheduleOf o = l at hm hn
  generalize s.control.mode = m at before here later ⊢
  have after : ∀ (l : List EvalWork) (t : State), w ∉ l → Q t → Q (l.foldl (State.work m) t) := by
    intro l
    induction l with
    | nil => exact fun t _ ht => ht
    | cons v l ih =>
      intro t hv ht
      exact ih _ (fun e => hv (List.mem_cons_of_mem _ e)) (later v t (fun e => hv (e ▸ List.mem_cons_self)) ht)
  induction l generalizing s with
  | nil => cases hm
  | cons v l ih =>
    by_cases e : v = w
    · subst e
      exact after l _ (List.nodup_cons.mp hn).1 (here s h)
    · exact ih (before v s e h) ((List.mem_cons.mp hm).resolve_left (fun e' => e e'.symm)) (List.nodup_cons.mp hn).2

/-! ### The events before the frame -/

/-- With no event before the frame, the frame follows the work at once. -/
theorem execEvaluation_work (order : List EvalWork) (s : State) (h : s.control.mode ≠ .start) :
    execEvaluation { order := order } s = .next (s.evaluated order).formReference := by
  rw [execEvaluation, if_neg h]; rfl

/-- While a test's new offset is in no frame yet, no attempt begins before the frame (R136). -/
theorem State.takeLate_attempt_unsent (s : State) (h : s.offsetUnsent = true) : s.takeLate .attempt = s := by
  simp [State.takeLate, h]

/-- An event before the frame does what its own command does, but for an attempt that R136 rules out (R87, R108,
R112). -/
theorem State.takeLate_command (s : State) (e : LateEvent) (h : e = .attempt → s.offsetUnsent = false) :
    exec
        (match e with
          | .gateEnd => .gateEnd
          | .torqueFrame chars => .torqueFrame chars [] [] []
          | .torqueGapCutOff => .torqueGapCutOff
          | .torqueFramingError => .torqueFramingError
          | .goodFrame moment chars => .goodFrame moment chars
          | .badFrame => .badFrame
          | .watchdogExpiry due => .watchdogExpiry due
          | .payloadBitLoss => .payloadBitLoss
          | .faultyBitAbort => .faultyBitAbort
          | .attempt => .attempt
          | .answerSent => .answerSent) s
      = .next (s.takeLate e) := by
  cases e <;> simp_all [exec, execGateEnd, execTorqueFrame, execTorqueGapCutOff, execTorqueFramingError, execGoodFrame,
    execBadFrame, execWatchdogExpiry, execPayloadBitLoss, execFaultyBitAbort, execAttempt, execAnswerSent, State.takeLate]

/-- What every event keeps, the events before the frame keep. -/
theorem State.takeLate_induct {P : State → Prop} {s : State} (late : List LateEvent) (h : P s)
    (keeps : ∀ (e : LateEvent) (t : State), P t → P (t.takeLate e)) : P (late.foldl State.takeLate s) := by
  induction late generalizing s with
  | nil => exact h
  | cons e late ih => exact ih (keeps e s h)

end Sys2Proof.Machine
end

