-- ==== Sys2Proof/Laws/Notices.lean ====
section
/-! SUPPORT. What taking a notice does, said once: a masked one, a WARN-class one, a TRIP-class one. -/

namespace Sys2Proof.Machine

theorem Kind.number_range (k : Kind) : 1 ≤ k.number ∧ k.number ≤ 16 := by cases k <;> decide

theorem Kind.flag_eq (k : Kind) : k.flag = BitVec.ofNat 16 (2 ^ (k.number - 1)) := by cases k <;> decide

/-- Counting one notice and letting the lines follow is what `raised` says. -/
theorem FaultUnit.count_driveLines (f : FaultUnit) (n : Notice) : (f.count n).driveLines = f.raised n.kind := by
  have hc : f.counts.setIfInBounds (n.kind.number - 1)
        (satInc Config.runMax ((f.counts[n.kind.number - 1]?).getD 0))
      = Vector.ofFn fun i : Fin 16 =>
          if i.val + 1 = n.kind.number then min 255 (f.counts[i] + 1) else f.counts[i] := by
    have hn := n.kind.number_range
    ext i hi
    by_cases h : n.kind.number - 1 = i
    · have h2 : i + 1 = n.kind.number := by omega
      simp [h, h2, hi, satInc, Config.runMax]
    · have h2 : ¬ i + 1 = n.kind.number := by omega
      simp [h, h2]
  simp [FaultUnit.count, FaultUnit.driveLines, FaultUnit.raised, FaultUnit.tripDue, FaultUnit.warnDue, hc,
    Kind.flag_eq]

/-- A notice of a detect-masked kind changes nothing but that the lines follow the status, as they do already. -/
theorem State.takeNotice_masked (s : State) (n : Notice) (h : holds s.fault.detectMask n.kind = true) :
    s.takeNotice n = { s with fault := s.fault.driveLines } := by
  simp [State.takeNotice, State.takeNotices, State.recordNotices, FaultUnit.live, FaultUnit.requestsDrop, h,
    State.toFirstTrip, State.toFirstWarn]

/-- A WARN-class notice changes the fault unit alone. -/
theorem State.takeNotice_warn (s : State) (n : Notice) (h : s.fault.warns n.kind) :
    s.takeNotice n = { s with fault := s.fault.warned n.kind n.source s.control.evaluations } := by
  obtain ⟨hc, hd⟩ := h
  have hc : holds s.fault.classMap n.kind = false := hc
  have hd : holds s.fault.detectMask n.kind = false := hd
  simp only [State.takeNotice, State.takeNotices, State.recordNotices, FaultUnit.live, FaultUnit.requestsDrop,
    List.filter, hd, hc, List.any, List.foldl, FaultUnit.count_driveLines, State.toFirstTrip, State.toFirstWarn,
    FaultUnit.warned, Bool.not_false, Bool.or_false, Bool.false_eq_true, if_false, List.isEmpty_nil, Bool.not_true,
    lowest, State.warnContents]
  rcases hw : s.fault.firstWarn with _ | c | c <;> simp [FaultUnit.raised, hw]

/-- A TRIP-class notice is recorded and then requests its drop. -/
theorem State.takeNotice_trip (s : State) (n : Notice) (h : s.fault.trips n.kind) :
    s.takeNotice n = State.tripDrop { s with fault := s.fault.tripped (s.tripContents n) } n.kind.fixed := by
  obtain ⟨hc, hd⟩ := h
  have hc : holds s.fault.classMap n.kind = true := hc
  have hd : holds s.fault.detectMask n.kind = false := hd
  have hk : (s.tripContents n).kind = n.kind := rfl
  simp only [State.takeNotice, State.takeNotices, State.recordNotices, FaultUnit.live, FaultUnit.requestsDrop,
    FaultUnit.dropsToHold, List.filter, hd, hc, List.any, List.foldl, FaultUnit.count_driveLines, State.toFirstTrip,
    State.toFirstWarn, FaultUnit.tripped, Bool.not_false, Bool.or_false, if_true, List.isEmpty_nil,
    Bool.not_true, lowest, hk]
  rcases hw : s.fault.firstTrip with _ | c | c <;> simp [FaultUnit.raised, hw, State.tripContents]

end Sys2Proof.Machine
end

