-- ==== Sys2Proof/Laws/Operands.lean ====
section
/-! SUPPORT. The arithmetic of the conventions and of two-byte fields, said once. -/

namespace Sys2Proof.Machine

/-- A two-byte field is the concatenation of its bytes. -/
theorem u16_eq (hi lo : Byte) : u16 hi lo = (hi ++ lo).toNat := by
  rw [BitVec.toNat_append, ← Nat.shiftLeft_add_eq_or_of_lt lo.isLt, Nat.shiftLeft_eq]
  rfl

/-- As a bit vector. -/
theorem ofNat_u16 (hi lo : Byte) : BitVec.ofNat 16 (u16 hi lo) = hi ++ lo := by
  apply BitVec.eq_of_toNat_eq
  rw [BitVec.toNat_ofNat, u16_eq]
  exact Nat.mod_eq_of_lt (hi ++ lo).isLt

/-- A signed two-byte field is its two's complement value. -/
theorem s16_eq (hi lo : Byte) : s16 hi lo = (hi ++ lo).toInt := by rw [s16, ofNat_u16]

@[simp] theorem toNat_byte (n : Nat) : (byte n).toNat = n % 256 := BitVec.toNat_ofNat n 8

/-- A two-byte field written and read. -/
theorem u16_be16 (n : Nat) (h : n < 65536) : u16 (byte (n / 256)) (byte n) = n := by
  simp only [u16, toNat_byte]
  omega

theorem clampNat_range {lo hi : Nat} (h : lo ≤ hi) (n : Nat) : lo ≤ clampNat lo hi n ∧ clampNat lo hi n ≤ hi := by
  unfold clampNat
  omega

theorem clampNat_self {lo hi n : Nat} (h1 : lo ≤ n) (h2 : n ≤ hi) : clampNat lo hi n = n := by
  unfold clampNat
  omega

theorem clampInt_range {lo hi : Int} (h : lo ≤ hi) (z : Int) : lo ≤ clampInt lo hi z ∧ clampInt lo hi z ≤ hi := by
  unfold clampInt
  omega

theorem clampInt_self {lo hi z : Int} (h1 : lo ≤ z) (h2 : z ≤ hi) : clampInt lo hi z = z := by
  unfold clampInt
  omega

theorem satInc_le (top n : Nat) : satInc top n ≤ top := Nat.min_le_left _ _

/-- The rounding of the manual: to the nearest multiple, the farther from zero of two equally near. -/
theorem roundDiv_nearest (z : Int) (d : Nat) (h : 0 < d) : (2 * (roundDiv z d * d - z)).natAbs ≤ d := by
  unfold roundDiv
  have hd := Nat.div_add_mod (2 * z.natAbs + d) (2 * d)
  have hm := Nat.mod_lt (2 * z.natAbs + d) (show 0 < 2 * d by omega)
  generalize (2 * z.natAbs + d) / (2 * d) = q at hd ⊢
  generalize (2 * z.natAbs + d) % (2 * d) = r at hd hm
  rw [show 2 * d * q = 2 * (q * d) by rw [Nat.mul_assoc, Nat.mul_comm d q]] at hd
  have hq : ((q : Int) * (d : Int)) = ((q * d : Nat) : Int) := by push_cast; rfl
  generalize q * d = p at hd hq
  rcases Int.lt_trichotomy z 0 with hz | hz | hz
  · rw [Int.sign_eq_neg_one_of_neg hz, Int.mul_assoc, hq]; omega
  · subst hz; rw [Int.sign_zero, Int.zero_mul, Int.zero_mul]; omega
  · rw [Int.sign_eq_one_of_pos hz, Int.mul_assoc, hq]; omega

end Sys2Proof.Machine
end

