-- ==== Sys2Proof/Laws/PeerTable.lean ====
section
/-! SUPPORT. What an event of the peer table makes of an entry depends on the table and the receiver alone (R50 to R61):
two states that agree on them agree after it. -/

namespace Sys2Proof.Machine

/-- An entry without the coupling observer's fields. -/
def PeerEntry.table (e : PeerEntry) : PeerEntry :=
  { e with marker := false, seen := 0, contrary := 0, quiet := 0, missed := 0, verdict := none }

@[simp] theorem State.peer_setPeer (s : State) (k j : Nat) (e : PeerEntry) :
    (s.setPeer k e).peer j = if j = k ∧ 1 ≤ k ∧ k ≤ 40 then e else s.peer j := by
  unfold State.setPeer State.peer
  by_cases hk : 1 ≤ k
  · by_cases hj : 1 ≤ j
    · simp only [hk, hj, if_true, Vector.getElem?_setIfInBounds]
      by_cases h : j = k
      · subst h
        by_cases h40 : j ≤ 40
        · simp [h40, show j - 1 < 40 by omega]
        · simp [h40, show ¬ j - 1 < 40 by omega]
      · simp [h, show ¬ k - 1 = j - 1 by omega]
    · simp [hk, hj, show ¬ j = k by omega]
  · simp [hk]

/-! ### The coupling observer writes its own fields alone -/

/-- The entries are as in `s` but for the observer's fields. -/
def State.SameTable (t s : State) : Prop := ∀ j, (t.peer j).table = (s.peer j).table

theorem State.SameTable.refl (s : State) : s.SameTable s := fun _ => rfl

theorem State.SameTable.trans {s t u : State} (h : u.SameTable t) (h' : t.SameTable s) : u.SameTable s :=
  fun j => (h j).trans (h' j)

theorem State.sameTable_of_peers {s t : State} (h : t.peers = s.peers) : t.SameTable s := by
  intro j; simp [State.peer, h]

theorem State.sameTable_setPeer (s : State) (k : Nat) (e : PeerEntry) (h : e.table = (s.peer k).table) :
    (s.setPeer k e).SameTable s := by
  intro j
  rw [State.peer_setPeer]
  split
  · rename_i hj; rw [hj.1, h]
  · rfl

theorem State.sameTable_takeNotices (s : State) (ns : List Notice) : (s.takeNotices ns).SameTable s :=
  State.sameTable_of_peers (by simp)

theorem State.sameTable_countMissed (s : State) (k : Nat) : (s.countMissed k).SameTable s := s.sameTable_setPeer k _ rfl

theorem State.sameTable_slot (s : State) (o : Slot) : ({ s with observation := o } : State).SameTable s :=
  State.sameTable_of_peers rfl

theorem State.sameTable_emptySlot (s : State) : s.emptySlot.SameTable s := State.sameTable_of_peers rfl

theorem State.sameTable_giveVerdict (s : State) (k : Nat) : (s.giveVerdict k).SameTable s := by
  unfold State.giveVerdict
  dsimp only
  split
  · exact (State.sameTable_takeNotices _ _).trans (s.sameTable_setPeer k _ rfl)
  · exact s.sameTable_setPeer k _ rfl

theorem State.sameTable_transition (s : State) (k : Nat) (g : Sign) : (s.transition k g).SameTable s := by
  unfold State.transition
  (repeat' split) <;> first
    | with_reducible exact s.sameTable_countMissed k
    | with_reducible exact s.sameTable_slot _
    | with_reducible exact (State.sameTable_slot (s.countMissed k) _).trans (s.sameTable_countMissed k)

theorem State.sameTable_levelChange (s : State) (k : Nat) (a b : Level) : (s.levelChange k a b).SameTable s := by
  unfold State.levelChange
  split
  · exact s.sameTable_transition k _
  · exact State.SameTable.refl s

theorem State.sameTable_testStart (s : State) (k : Nat) (l : Level) : (s.testStart k l).SameTable s := by
  unfold State.testStart
  dsimp only
  refine (State.sameTable_levelChange _ k _ _).trans (State.SameTable.trans (State.sameTable_setPeer _ k _ ?_) ?_)
  · rfl
  split
  · exact (State.sameTable_giveVerdict _ k).trans s.sameTable_emptySlot
  · exact State.SameTable.refl s

theorem State.sameTable_testEnd (s : State) (k : Nat) : (s.testEnd k).SameTable s := by
  unfold State.testEnd
  (repeat' split) <;> first
    | with_reducible exact s.sameTable_giveVerdict k
    | with_reducible exact s.sameTable_slot _
    | with_reducible exact (State.sameTable_giveVerdict _ k).trans
                        ((State.sameTable_emptySlot _).trans (s.sameTable_countMissed k))

/-- An update told to the observer leaves every entry but for the observer's fields. -/
theorem State.sameTable_observeUpdate (s : State) (k : Nat) (p : Option Contents) (c : Contents) :
    (s.observeUpdate k p c).SameTable s := by
  unfold State.observeUpdate
  (repeat' split) <;> first
    | with_reducible exact s.sameTable_levelChange k _ _
    | with_reducible exact s.sameTable_testEnd k
    | with_reducible exact s.sameTable_testStart k _
    | with_reducible exact State.SameTable.refl s

/-- A demotion told to the observer leaves every entry but for the observer's fields. -/
theorem State.sameTable_observeDemotion (s : State) (d : Demotion) : (s.observeDemotion d).SameTable s := by
  unfold State.observeDemotion
  dsimp only
  have h : (s.setPeer d.station ((s.peer d.station).abandon d.cause)).SameTable s := by
    refine s.sameTable_setPeer _ _ ?_
    unfold PeerEntry.abandon
    split <;> rfl
  (repeat' split) <;> first
    | with_reducible exact (State.sameTable_emptySlot _).trans h
    | with_reducible exact h
    | with_reducible exact State.SameTable.refl s

theorem State.sameTable_judge (s : State) (k : Nat) (g : Sign) (b : Int) : (s.judge k g b).SameTable s := by
  unfold State.judge
  split
  · exact s.sameTable_countMissed k
  · refine s.sameTable_setPeer k _ ?_
    unfold tally
    (repeat' split) <;> rfl

/-- The observer's work leaves every entry but for the observer's fields. -/
theorem State.sameTable_observe (s : State) : s.observe.SameTable s := by
  unfold State.observe
  (repeat' split) <;> first
    | with_reducible exact State.SameTable.refl s
    | with_reducible exact s.sameTable_slot _
    | with_reducible exact (State.sameTable_emptySlot _).trans (s.sameTable_countMissed _)
    | with_reducible exact (State.sameTable_emptySlot _).trans (s.sameTable_judge _ _ _)
    | with_reducible exact (State.sameTable_emptySlot _).trans
                        ((State.sameTable_countMissed _ _).trans (s.sameTable_judge _ _ _))
    | with_reducible exact (State.sameTable_slot (s.judge _ _ _) _).trans (s.sameTable_judge _ _ _)
    | with_reducible exact (State.sameTable_giveVerdict _ _).trans
                        ((State.sameTable_emptySlot _).trans (s.sameTable_judge _ _ _))
    | with_reducible exact (State.sameTable_giveVerdict _ _).trans ((State.sameTable_emptySlot _).trans
        ((State.sameTable_countMissed _ _).trans (s.sameTable_judge _ _ _)))

/-! ### An event of the table -/

/-- Two states agree on what an event of the table looks at. -/
structure State.TableAgrees (s t : State) : Prop where
  startUnit : s.startUnit = t.startUnit
  clock     : s.clock = t.clock
  lineOn    : s.control.mode.lineOn = t.control.mode.lineOn
  rx        : s.line.rx = t.line.rx
  step      : s.line.step = t.line.step
  badRun    : s.line.badRun = t.line.badRun
  attempt   : s.line.attempt = t.line.attempt
  entries   : s.SameTable t

theorem PeerEntry.table_lapse (e : PeerEntry) : e.lapse.table = e.table.lapse := rfl

theorem PeerEntry.table_loseStep (e : PeerEntry) :
    e.loseStep.table = if e.table.state = .absent then e.table else e.table.lapse := by
  unfold PeerEntry.loseStep PeerEntry.abandon PeerEntry.table PeerEntry.lapse
  by_cases h : e.state = .absent
  · simp [h]
  · simp only [h, if_false]
    split <;> rfl

theorem PeerEntry.table_take (e : PeerEntry) (q m : Nat) (r : Report) :
    (e.take q m r).table = (e.table.take q m r) := by
  rfl

@[simp] theorem State.loseStep_peers (s : State) : s.loseStep.peers = s.peers.map PeerEntry.loseStep := by
  ext i hi : 1; simp [State.loseStep]

theorem State.peer_loseStep (s : State) (j : Nat) :
    ((s.loseStep).peer j) = if 1 ≤ j ∧ j ≤ 40 then (s.peer j).loseStep else s.peer j := by
  unfold State.loseStep State.peer
  by_cases hj : 1 ≤ j
  · by_cases h : j ≤ 40
    · simp [hj, h, show j - 1 < 40 by omega]
    · simp [hj, h, show ¬ j - 1 < 40 by omega]
  · simp [hj]

theorem State.SameTable.loseStep {s t : State} (h : s.SameTable t) : s.loseStep.SameTable t.loseStep := by
  intro j
  rw [State.peer_loseStep, State.peer_loseStep]
  split
  · rw [PeerEntry.table_loseStep, PeerEntry.table_loseStep, h j]
  · exact h j

theorem State.sameTable_afterBreak (s : State) (k : Nat) (q : Bool) : (s.afterBreak k q).SameTable s := by
  unfold State.afterBreak
  refine (State.sameTable_observeDemotion _ _).trans ?_
  split
  · exact State.sameTable_takeNotices _ _
  · exact State.SameTable.refl s

/-- A report taken makes of the entries what its case makes of its own station's. -/
theorem State.sameTable_takeReport (s : State) (k : Nat) (r : Report) :
    (s.takeReport k r).SameTable (s.setPeer k ((s.peer k).take s.image.passThreshold s.clock r)) := by
  unfold State.takeReport
  dsimp only
  refine (State.sameTable_observeUpdate _ _ _ _).trans ?_
  split
  · exact State.sameTable_afterBreak _ _ _
  · exact State.SameTable.refl _

theorem State.SameTable.setPeer {s t : State} (h : s.SameTable t) (k : Nat) {e f : PeerEntry} (he : e.table = f.table) :
    (s.setPeer k e).SameTable (t.setPeer k f) := by
  intro j
  rw [State.peer_setPeer, State.peer_setPeer]
  split
  · exact he
  · exact h j

theorem State.SameTable.symm {s t : State} (h : s.SameTable t) : t.SameTable s := fun j => (h j).symm

theorem State.sameTable_reportArrives {s t : State} (h : s.SameTable t) (hi : s.startUnit = t.startUnit)
    (hc : s.clock = t.clock) (k : Nat) (p : List Byte) : (s.reportArrives k p).SameTable (t.reportArrives k p) := by
  unfold State.reportArrives
  split
  · rename_i r _
    refine (s.sameTable_takeReport k r).trans (State.SameTable.trans ?_ (t.sameTable_takeReport k r).symm)
    refine h.setPeer k ?_
    rw [PeerEntry.table_take, PeerEntry.table_take, h k, hc, State.image, State.image, hi]
  · exact h

theorem State.sameTable_judgeBad {s t : State} (h : s.TableAgrees t) : s.judgeBad.SameTable t.judgeBad := by
  have hl : s.losesStep = t.losesStep := by
    unfold State.losesStep State.image; rw [h.step, h.badRun, h.startUnit]
  have hp : ∀ (a b : Line), ({ s with line := a } : State).SameTable ({ t with line := b } : State) :=
    fun _ _ j => h.entries j
  unfold State.judgeBad
  rw [hl]
  dsimp only
  split
  · exact State.SameTable.loseStep ((State.sameTable_takeNotices _ _).trans ((hp _ _).trans
      (State.sameTable_takeNotices _ _).symm))
  · exact (State.sameTable_takeNotices _ _).trans ((hp _ _).trans (State.sameTable_takeNotices _ _).symm)

theorem State.sameTable_expire {s t : State} (h : s.SameTable t) (k : Nat) : (s.expire k).SameTable (t.expire k) := by
  unfold State.expire
  dsimp only
  refine (State.sameTable_observeDemotion _ _).trans
    (State.SameTable.trans ?_ (State.sameTable_observeDemotion _ _).symm)
  have hs : (s.setPeer k (s.peer k).lapse).SameTable (t.setPeer k (t.peer k).lapse) :=
    h.setPeer k (by rw [PeerEntry.table_lapse, PeerEntry.table_lapse, h k])
  have hst : (s.peer k).state = (t.peer k).state := by simpa [PeerEntry.table] using congrArg PeerEntry.state (h k)
  rw [hst]
  split
  · exact (State.sameTable_takeNotices _ _).trans (hs.trans (State.sameTable_takeNotices _ _).symm)
  · exact hs

theorem State.sameTable_receiveReport {s t : State} (h : s.TableAgrees t) (m : Nat) (k : BitVec 6) (p : List Byte) :
    (s.receive m (contention 2 k) p).SameTable (t.receive m (contention 2 k) p) := by
  have hr : s.canReceive = t.canReceive := by simp only [State.canReceive, h.lineOn, h.rx]
  have hf : ∀ c, s.isOwnFrame c p = t.isOwnFrame c p := fun c => by unfold State.isOwnFrame; rw [h.attempt]
  have hclass : frameClass (contention 2 k) = 2 := by revert k; decide
  unfold State.receive
  rw [hr, hf]
  split
  · split
    · have ho : (s.countGood m).own = (t.countGood m).own := by
        simp only [State.own, State.image, State.countGood, h.startUnit]
      have hg : (s.countGood m).SameTable (t.countGood m) := fun j => h.entries j
      have hroute : ∀ u : State, u.route (contention 2 k) p
          = if frameStation (contention 2 k) = u.own then u.takeNotice (notice .idClash u.own)
            else u.reportArrives (frameStation (contention 2 k)) p := fun u => by
        unfold State.route; rw [hclass]; rfl
      rw [hroute, hroute, ho]
      split
      · exact (State.sameTable_takeNotices _ _).trans (hg.trans (State.sameTable_takeNotices _ _).symm)
      · exact State.sameTable_reportArrives hg h.startUnit (by simp only [State.countGood, h.clock]) _ _
    · exact State.sameTable_judgeBad h
  · exact h.entries

theorem State.TableAgrees.endAttempt {s t : State} (h : s.TableAgrees t) (rx : RxState) :
    (s.endAttempt rx).TableAgrees (t.endAttempt rx) := by
  constructor <;> simp [State.endAttempt, State.settleTx, h.startUnit, h.clock, h.lineOn, h.step, h.badRun]
  exact fun j => h.entries j

theorem State.sameTable_watchdogDue {s t : State} (h : s.TableAgrees t) (due : WatchdogDue) :
    (s.watchdogDue due).SameTable (t.watchdogDue due) := by
  have hd : (s.peer due.station).deadline = (t.peer due.station).deadline := by
    simpa [PeerEntry.table] using congrArg PeerEntry.deadline (h.entries due.station)
  unfold State.watchdogDue
  rw [h.lineOn, hd, h.clock]
  split
  · split
    · have hc : ({ s with clock := max t.clock due.moment } : State).SameTable
          { t with clock := max t.clock due.moment } := fun j => h.entries j
      exact State.sameTable_expire hc _
    · exact h.entries
  · exact h.entries

/-- What an event makes of the entries, the coupling observer's fields apart, depends on the table and the receiver
alone. -/
theorem State.sameTable_takeTableEvent {s t : State} (h : s.TableAgrees t) (e : TableEvent) :
    (s.takeTableEvent e).SameTable (t.takeTableEvent e) := by
  cases e with
  | report m k p => exact State.sameTable_receiveReport h m k p
  | badFrame =>
    have hr : s.canReceive = t.canReceive := by simp only [State.canReceive, h.lineOn, h.rx]
    simp only [State.takeTableEvent, State.receiveBad, hr]
    split
    · exact State.sameTable_judgeBad h
    · exact h.entries
  | faultyBitAbort =>
    have hr : s.isSending = t.isSending := by simp only [State.isSending, h.lineOn, h.attempt]
    simp only [State.takeTableEvent, State.faultBit, hr]
    split
    · exact State.sameTable_judgeBad (h.endAttempt _)
    · exact h.entries
  | watchdogExpiry due => exact State.sameTable_watchdogDue h due

/-! ### An evaluation's works -/

theorem State.TableAgrees.trans {s t u : State} (h : s.TableAgrees t) (h' : t.TableAgrees u) : s.TableAgrees u :=
  ⟨h.1.trans h'.1, h.2.trans h'.2, h.3.trans h'.3, h.4.trans h'.4, h.5.trans h'.5, h.6.trans h'.6, h.7.trans h'.7,
    h.8.trans h'.8⟩

/-- A change to REPORT from a mode in which the line works is nothing to the table. -/
theorem State.tableAgrees_changeMode (s : State) (h : s.control.mode.lineOn = true) :
    (s.changeMode .report).TableAgrees s := by
  constructor
  case entries => exact State.sameTable_of_peers (by simp)
  all_goals simp [State.changeMode, State.settleTx, Line.onMode, h]
  all_goals split <;> simp [Mode.lineOn]

/-- A trip drop for another kind than CONFIG and ID_CLASH is nothing to the table. -/
theorem State.tableAgrees_tripDrop (s : State) : (s.tripDrop false).TableAgrees s := by
  unfold State.tripDrop
  split
  · rename_i h
    exact (State.tableAgrees_changeMode _ (by simp [State.zeroAuthority, h, Mode.lineOn])).trans
      ⟨rfl, rfl, rfl, rfl, rfl, rfl, rfl, fun _ => rfl⟩
  · rename_i h
    exact (State.tableAgrees_changeMode _ (by simp [State.zeroAuthority, State.endTest, h, Mode.lineOn])).trans
      ⟨rfl, rfl, rfl, rfl, rfl, rfl, rfl, fun _ => rfl⟩
  all_goals exact ⟨rfl, rfl, rfl, rfl, rfl, rfl, rfl, fun _ => rfl⟩

/-- Notices of no kind that leads to HOLD are nothing to the table. -/
theorem State.tableAgrees_takeNotices (s : State) (ns : List Notice) (h : ∀ n ∈ ns, n.kind.fixed = false) :
    (s.takeNotices ns).TableAgrees s := by
  have hd : s.fault.dropsToHold ns = false := by
    rw [FaultUnit.dropsToHold, List.any_eq_false]
    intro n hn
    simp [h n (List.mem_of_mem_filter hn)]
  unfold State.takeNotices
  rw [hd]
  have hr : (s.recordNotices ns).TableAgrees s := by
    constructor
    case entries => exact State.sameTable_of_peers (by simp)
    all_goals simp
  dsimp only
  split
  · exact (State.tableAgrees_tripDrop _).trans hr
  · exact hr

theorem State.tableAgrees_giveVerdict (s : State) (k : Nat) : (s.giveVerdict k).TableAgrees s := by
  have h : ∀ e : PeerEntry, e.table = (s.peer k).table → (s.setPeer k e).TableAgrees s := by
    intro e he
    constructor
    case entries => exact s.sameTable_setPeer k e he
    all_goals simp
  unfold State.giveVerdict
  dsimp only
  split
  · exact (State.tableAgrees_takeNotices _ _ (by simp [notice]; decide)).trans (h _ rfl)
  · exact h _ rfl

theorem State.tableAgrees_observe (s : State) : s.observe.TableAgrees s := by
  have h : ∀ (t : State) (k : Nat), t.TableAgrees s → (t.giveVerdict k).TableAgrees s :=
    fun t k ht => (t.tableAgrees_giveVerdict k).trans ht
  have hj : ∀ (k : Nat) (g : Sign) (b : Int), (s.judge k g b).emptySlot.TableAgrees s := by
    intro k g b
    constructor
    case entries => exact (State.sameTable_emptySlot _).trans (s.sameTable_judge k g b)
    all_goals simp
  have hm : ∀ (k : Nat) (g : Sign) (b : Int), ((s.judge k g b).countMissed k).emptySlot.TableAgrees s := by
    intro k g b
    constructor
    case entries =>
      exact (State.sameTable_emptySlot _).trans ((State.sameTable_countMissed _ k).trans (s.sameTable_judge k g b))
    all_goals simp [State.countMissed]
  by_cases hf : ∃ k g b r u, s.observation = .counting k g b r u true
  · obtain ⟨k, g, b, r, u, hu⟩ := hf
    unfold State.observe
    rw [hu]
    cases u with
    | none => exact h _ k (hj k g b)
    | some g' => exact h _ k (hm k g b)
  · have hmode : s.observe.control = s.control ∧ s.observe.line = s.line := by
      unfold State.observe
      (repeat' split) <;> first
        | exact absurd ⟨_, _, _, _, _, by assumption⟩ hf
        | simp [State.countMissed]
    constructor
    case entries => exact s.sameTable_observe
    all_goals simp [hmode]

/-- No work of an evaluation is anything to the table. -/
theorem State.tableAgrees_work (m : Mode) (s : State) (w : EvalWork) : (State.work m s w).TableAgrees s := by
  have hr : s.TableAgrees s := ⟨rfl, rfl, rfl, rfl, rfl, rfl, rfl, fun _ => rfl⟩
  cases w with
  | accumulatorClose => exact ⟨rfl, rfl, rfl, rfl, rfl, rfl, rfl, fun _ => rfl⟩
  | staleNotice =>
    simp only [State.work, State.staleNotice]
    split
    · exact State.tableAgrees_takeNotices _ _ (by decide)
    · exact hr
  | fadeStep =>
    simp only [State.work, State.fadeStep]
    (repeat' split) <;> rename_i h <;> first
      | exact hr
      | exact ⟨rfl, rfl, by simp [*, State.changePhase, Mode.lineOn], rfl, rfl, rfl, rfl, fun _ => rfl⟩
      | exact (State.tableAgrees_changeMode _ (by simp [*, State.zeroAuthority, Mode.lineOn])).trans
          ⟨rfl, rfl, rfl, rfl, rfl, rfl, rfl, fun _ => rfl⟩
  | balanceEngine =>
    simp only [State.work, State.balanceWork]
    split
    · refine (State.tableAgrees_takeNotices _ _ ?_).trans ⟨rfl, rfl, rfl, rfl, rfl, rfl, rfl, fun _ => rfl⟩
      intro n hn
      simp only [State.balanceNotices, List.mem_append] at hn
      rcases hn with (hn | hn) | hn <;> split at hn <;> simp at hn <;> subst hn <;> rfl
    · exact hr
  | drawVerifier =>
    simp only [State.work, State.drawWork]
    (repeat' split) <;> first
      | exact hr
      | exact (State.tableAgrees_takeNotices _ _ (by decide)).trans ⟨rfl, rfl, rfl, rfl, rfl, rfl, rfl, fun _ => rfl⟩
      | exact ⟨rfl, rfl, rfl, rfl, rfl, rfl, rfl, fun _ => rfl⟩
  | excitationUnit =>
    simp only [State.work, State.excitationWork]
    split
    · rename_i p hm _
      have hs : (s.runStep p).TableAgrees s := by
        unfold State.runStep
        dsimp only
        split
        · exact (State.tableAgrees_changeMode _ (by simp [State.endTest, hm, Mode.lineOn])).trans
            ⟨rfl, rfl, rfl, rfl, rfl, rfl, rfl, fun _ => rfl⟩
        · exact ⟨rfl, rfl, rfl, rfl, rfl, rfl, rfl, fun _ => rfl⟩
      split
      · exact (State.tableAgrees_takeNotices _ _ (by decide)).trans
          (State.TableAgrees.trans (t := s.runStep p) ⟨rfl, rfl, rfl, rfl, rfl, rfl, rfl, fun _ => rfl⟩ hs)
      · exact hs
    · exact hr
  | couplingObserver =>
    simp only [State.work, State.observeEvaluation]
    split
    · exact s.tableAgrees_observe
    · exact hr

end Sys2Proof.Machine
end

