-- ==== Sys2Proof/Tests/Slice0.lean ====
section
/-! SUPPORT. The package's own tests: the well-formedness smoke, single steps with the figures of the spec's worked
examples and tables, and for every statement with hypotheses a state and operands that meet them. -/

namespace Sys2Proof.Tests

open Sys2Proof.Machine

/-! ### Helpers -/

/-- The start image of the worked examples' station 9. -/
def image : Image :=
  { station := 9, group := 4, weight := 50, position := 4, period := 10, passThreshold := 3, badThreshold := 3,
    edgeScale := 2807, floorRung := 2, topRung := 6, lockBand := 10, fadeLength := 8,
    tuning := { shareGain := 16, deadband := 100, rateLimit := 10, trimLimit := 200, shareTolerance := 300,
                drawSetpoint := 50, drawTolerance := 20, couplingWindow := 4, couplingThreshold := 100 },
    classMap := 0x000F, detectMask := 0, signalMask := 0x8000 }

/-- The start record that gives that image, word by word from R191's table, the check word last (R187). -/
def record : List Byte :=
  [0x09, 0x00, 0x04, 0x00, 0x32, 0x00, 0x04, 0x00, 0x0A, 0x00, 0x03, 0x00, 0x03, 0x00, 0xF7, 0x0A, 0x02, 0x06, 0x0A,
    0x00, 0x10, 0x00, 0x64, 0x00, 0x0A, 0x00, 0xC8, 0x00, 0x08, 0x00, 0x32, 0x00, 0x14, 0x00, 0x2C, 0x01, 0x04, 0x00,
    0x64, 0x00, 0x0F, 0x00, 0x00, 0x00, 0x00, 0x80, 0x73, 0x6B]

/-- Station 9 in REPORT, locked at 15043 mm/s at rung 5, its drive ready with fresh torque, its receiver READY. -/
def node : State :=
  { State.reset with
    startUnit := { phase := .over, port := .idle, image := some image, clamped := false }
    tracker :=
      { Tracker.atReset 2 with state := .locked, rung := 5, latest := some 15043, comparison := some 15043 }
    drive := { DriveLink.atReset with staleRun := 0, ready := true }
    line := { Line.atReset with rx := .ready }
    control := { ModeControl.atReset with mode := .report }
    handler := Handler.atReset image.tuning }

/-- The node in another mode, with these a and u. -/
def nodeIn (m : Mode) (authority : Nat := 0) (u : Int := 0) : State :=
  { node with
    control := { node.control with mode := m, authority := authority, trim := truncDiv (u * authority) 8 }
    balance := { node.balance with integrator := u } }

/-- The node with this tracker in ACQUIRE at a rung. -/
def acquiring (rung edges : Nat) (comparison : Option Nat) (unlocked emptyRun : Nat) : State :=
  { node with tracker :=
      { Tracker.atReset 2 with
        rung := rung, edges := edges, comparison := comparison, unlocked := unlocked, emptyRun := emptyRun } }

/-- A pattern of the worked example of spec/08. -/
def pattern : Pattern :=
  { levels := [.plus, .minus, .zero], hold := 3, amplitude := 40, tolerance := 15, target := 0x20 }

/-- The node in TEST, at this step, position and count of that pattern, from a baseline of 15000 mm/s. -/
def testing (step position count : Nat) (speed : Nat) : State :=
  { nodeIn .test with
    tracker := { node.tracker with latest := some speed, comparison := some speed }
    excitation :=
      { Excitation.atReset (some pattern) with
        running := true, stepIndex := step, position := position, baseline := 15000, count := count } }

/-- A peer's report. -/
def report (sequence : Byte) (weight position speed : Nat) (torque trim : Int) (mode : ReportMode) (level : Level) :
    Report :=
  { sequence := sequence
    shape := { group := 4, weight := weight, position := position, period := 10 }
    contents :=
      { mode := mode, speedValid := true, torqueStale := false, summary := .none, testRunning := decide (mode = .test),
        speed := speed, torque := torque, trim := trim, testStep := 0, testLevel := level, countCode := 0 } }

/-- A QUALIFIED entry of pass count 3 with this report. -/
def qualified (r : Report) : PeerEntry :=
  { PeerEntry.atReset with state := .qualified, passCount := 3, stored := some r, deadline := some 20000 }

/-- The node with a test of peer 8 followed, its last report showing this level, and this observation. -/
def watching (level : Level) (slot : Slot) (seen quiet : Nat) : State :=
  { node.setPeer 8 { qualified (report 7 100 3 15000 0 0 .test level) with marker := true, seen := seen, quiet := quiet }
    with observation := slot }

/-- An evaluation in this order of its works, with no event before its frame. -/
def course : Schedule := { order := defaultOrder }

/-- A directive's head from terminal 60 to station 9, with tag 1. -/
def head : DirectiveHead := { moment := 0, terminal := 60, target := 9, tag := 1 }

/-- What a command leaves. -/
def after (c : Instr) (s : State) : State :=
  match exec c s with
  | .next t => t
  | .fault _ => s
  | .refused _ => s

/-- An answer already in the queue. -/
def answer (resets : Bool) : Answer := { terminal := 60, tag := 1, outcome := .done, data := [], resets := resets }

/-- The node with this attempt in progress, in this transmitter state. -/
def sending (source : Source) (tx : TxState) (refill : Bool) (queue : List Answer) : State :=
  { node with
    line :=
      { node.line with
        rx := .receiving, tx := tx, attempt := some { source := source, frame := [] }, reportDue := true
        refill := refill, sequence := 41, reportsSent := 1200 }
    handler := { node.handler with queue := queue } }

/-- A node with this class map and detect mask. -/
def classed (classMap detectMask : KindSet) (s : State) : State :=
  { s with fault := { s.fault with classMap := classMap, detectMask := detectMask } }

/-! ### Well-formedness: each check refuses an ill-formed command, and a well-formed one passes -/

theorem test_wf_record_length : WellFormed (.startCheck [0]) = false ∧ WellFormed (.startCheck record) = true := by
  decide

theorem test_wf_evaluation_order :
    WellFormed (.evaluation { order := [.fadeStep] }) = false ∧ WellFormed (.evaluation course) = true := by decide

theorem test_wf_late_event :
    WellFormed (.evaluation { order := defaultOrder, late := [.torqueFrame []] }) = false
      ∧ WellFormed (.evaluation { order := defaultOrder, late := [.goodFrame 0 [0x5A]] }) = false
      ∧ WellFormed (.evaluation { order := defaultOrder, late := [.watchdogExpiry { moment := 0, station := 0 }] })
        = false
      ∧ WellFormed (.evaluation { order := defaultOrder, late := [.gateEnd] }) = true := by decide

theorem test_wf_evaluation_during :
    let one (i : Interruption) : Bool := WellFormed (.evaluation { order := defaultOrder, during := [i] })
    one { before := .drawVerifier, event := .report 0 0 (composeReport (report 1 100 3 0 0 0 .report .zero)), read := [] }
        = false
      ∧ one { before := .drawVerifier, event := .report 0 8 [], read := [] } = false
      ∧ one { before := .drawVerifier, event := .watchdogExpiry { moment := 0, station := 0 }, read := [] } = false
      ∧ one { before := .drawVerifier, event := .badFrame, read := [41] } = false
      ∧ one { before := .fadeStep, event := .badFrame, read := [8] } = false
      ∧ one { before := .fadeStep, event := .badFrame, read := [] } = true
      ∧ one { before := .drawVerifier, event := .badFrame, read := [8] } = true := by decide

theorem test_wf_torque_length :
    WellFormed (.torqueFrame [] [] [] []) = false ∧ WellFormed (.torqueFrame [0xD1] [0, 0] [1] [0, 0]) = false
      ∧ WellFormed (.torqueFrame [0xD1] [0, 0] [1] [0]) = true ∧ WellFormed (.torqueFrame [0xD1] [0] [] []) = true := by
  decide

theorem test_wf_report_station :
    WellFormed (.reportArrival 0 0 (List.replicate 16 0)) = false
      ∧ WellFormed (.reportArrival 0 41 (List.replicate 16 0)) = false
      ∧ WellFormed (.reportArrival 0 40 (List.replicate 16 0)) = true := by decide

theorem test_wf_report_length : WellFormed (.reportArrival 0 1 (List.replicate 15 0)) = false := by decide

theorem test_wf_frame : WellFormed (.goodFrame 0 [0x5A, 0x81, 16]) = false := by decide

theorem test_wf_watchdog_station :
    WellFormed (.watchdogExpiry { moment := 0, station := 0 }) = false
      ∧ WellFormed (.watchdogExpiry { moment := 0, station := 41 }) = false
      ∧ WellFormed (.watchdogExpiry { moment := 0, station := 40 }) = true := by decide

theorem test_wf_directive_terminal :
    WellFormed (.setMode { head with terminal := 59 } [2]) = false ∧ WellFormed (.setMode head [2]) = true := by decide

theorem test_wf_directive_length : WellFormed (.startTest head (List.replicate 16 0)) = false := by decide

theorem test_wf_item_length :
    WellFormed (.readNode head (List.replicate 15 0)) = false
      ∧ WellFormed (.readNode { head with terminal := 40 } [0]) = false := by decide

theorem test_wf_tune_item :
    WellFormed (.tune head 10 [0, 0]) = false ∧ WellFormed (.tune head 11 [0, 0]) = false
      ∧ WellFormed (.tune head 12 [0, 0]) = false ∧ WellFormed (.tune head 9 [0, 0]) = true := by decide

theorem test_wf_unknown_kind :
    WellFormed (.unknownKind head 9 []) = false ∧ WellFormed (.unknownKind head 10 []) = true
      ∧ WellFormed (.unknownKind head 0 []) = true := by decide

/-! ### Resets and START -/

/-- R191's table, word by word. -/
theorem test_start_check_image :
    (after (.startCheck record) State.reset).startUnit
        = { phase := .over, port := .idle, image := some image, clamped := false }
      ∧ (after (.startCheck record) State.reset).control.mode = .listen := by decide

/-- R187: a record that does not check leads to HOLD with CONFIG raised. -/
theorem test_start_check_bad :
    (after (.startCheck (record.set 3 1)) State.reset).control.mode = .hold
      ∧ (after (.startCheck (record.set 3 1)) State.reset).fault.status = 1 := by decide

theorem test_hardware_reset : after .hardwareReset node = State.reset := by decide

theorem test_reset_pin : (after .resetPinAsserted node).startUnit.phase = .pinHeld := by decide

/-- R186: the memory is selected and sent 03 hex and address 0 while the record is read, and released otherwise. -/
theorem test_start_memory_port :
    State.reset.startUnit.port = { selected := true, sent := [0x03, 0x00, 0x00] }
      ∧ (after .resetPinAsserted node).startUnit.port.selected = false
      ∧ (after (.startCheck (record.set 3 1)) State.reset).startUnit.port.selected = false := by decide

/-- R28: a REFERENCE frame being sent goes on through a soft reset and breaks off at a hardware reset; a half-received
TORQUE frame is lost at either. -/
theorem test_reference_at_resets :
    let s := sending .answer .sending false [answer true]
    let s := { s with drive := { s.drive with sending := some [0xB2, 0, 0, 0, 0xB2], opened := [0xD1, 0] } }
    let t := after .answerSent s
    t.drive.sending = some [0xB2, 0, 0, 0, 0xB2] ∧ t.drive.opened = [] ∧ t.idle.drive.frame = some [0xB2, 0, 0, 0, 0xB2]
      ∧ (after .hardwareReset s).drive.sending = none ∧ (after .hardwareReset s).drive.opened = [] := by decide

/-- R189: the soft reset's START ends in LISTEN with the image held. -/
theorem test_soft_start_end :
    (after .softStartEnd (after .answerSent (sending .answer .sending false [answer true]))).control.mode = .listen := by
  decide

/-! ### Speed (the worked examples of spec/01) -/

theorem test_encoder_edge_saturates :
    (after .encoderEdge { node with tracker := { node.tracker with edges := 16777215 } }).tracker.edges = 16777215 := by
  decide

/-- Acquisition at crawl: 23 edges at rung 6 give 504 mm/s and, against 504, lock. -/
theorem test_gate_end_locks :
    (after .gateEnd (acquiring 6 23 (some 504) 1 0)).tracker
      = { Tracker.atReset 2 with
          state := .locked, rung := 6, latest := some 504, comparison := some 504 } := by decide

/-- An excursion, line 1 and line 2b: 356 edges, then 343 edges, return the tracker to ACQUIRE at rung 2. -/
theorem test_gate_end_second_excursion :
    (after .gateEnd
      { node with tracker :=
          { node.tracker with edges := 343, latest := some 15613, comparison := some 15613, excursions := 1 } }).tracker
      = { Tracker.atReset 2 with latest := some 15043 } := by decide

/-! ### The drive link (the worked examples of spec/02 and spec/10) -/

/-- 1512, 1498 and 1507 close to 1505. -/
theorem test_torque_mean :
    (after (.evaluation course) { node with drive := { node.drive with count := 3, sum := 4517 } }).drive.held
      = 1505 := by decide

/-- A word of +31200 is clamped to +30000 (spec/10, "The frame"). -/
theorem test_torque_frame_clamps :
    (after (.torqueFrame [0xD1] [0x79, 0xE0] [1] [0xD1 + 0x79 + 0xE0 + 1]) node).drive.sum = 30000 := by decide

/-- The same word over a drive not ready in TRIM sends DRIVE_LINK and TORQUE_RANGE as one set, drops the node to REPORT
and fills the record from DRIVE_LINK with its multiple-trip flag. -/
theorem test_torque_frame_two_kinds :
    let s := { nodeIn (.trim .full) 8 30 with fault := { node.fault with classMap := 0x080F } }
    let t := after (.torqueFrame [0xD1] [0x79, 0xE0] [0] [0xD1 + 0x79 + 0xE0 + 0]) s
    t.control.mode = .report ∧ t.fault.status = 0x0804 ∧ t.fault.multipleTrip = true
      ∧ t.fault.firstTrip = .locked
          { kind := .driveLink, source := 0, evaluation := 0, mode := .trim .full, speed := 15043, speedValid := true,
            torque := 0, integrator := 30, authority := 8, testStep := none, cause := some .notReady } := by decide

/-- R17: while hunting, characters other than D1 hex are dropped uncounted, and so is a gap; D1 hex opens a frame. -/
theorem test_torque_hunting :
    after (.torqueFrame [0x12] [0x34] [] []) node = node ∧ after .torqueGapCutOff node = node
      ∧ (after (.torqueFrame [0x12] [0xD1, 0xD1] [] []) node).drive.opened = [0xD1, 0xD1] := by decide

theorem test_torque_gap :
    let t := after .torqueGapCutOff (after (.torqueFrame [0xD1] [0x79] [] []) node)
    t.drive.discards = 1 ∧ t.drive.opened = [] := by decide

theorem test_torque_framing :
    (after .torqueFramingError node).drive.discards = 0
      ∧ (after .torqueFramingError (after (.torqueFrame [0xD1] [] [] []) node)).drive.discards = 1 := by decide

/-! ### Evaluations (the worked examples of spec/05 to spec/09) -/

/-- One evaluation at station 9: target 1900, error −400, increment 18, step 10, u = 16 and y = 6. -/
theorem test_evaluation_share :
    let s := ((nodeIn (.trim .fadeIn) 2 6).setPeer 7 (qualified (report 1 100 3 15000 4200 (-12) .trim .zero))).setPeer 8
      (qualified (report 1 100 3 15000 3800 (-9) .trim .zero))
    let t := after (.evaluation course) { s with drive := { s.drive with count := 1, sum := 1500 } }
    t.balance.result = some
        { evaluation := 1, outcome := .assessed 9500 250 1900 (-400) 18 0, members := 3, step := 10 }
      ∧ t.balance.integrator = 16 ∧ t.control.trim = 6 := by decide

/-- The draw of station 11: 15090 over a mean of 15000 is 60. -/
theorem test_evaluation_draw :
    let s := (node.setPeer 5 (qualified (report 1 100 3 14990 0 0 .report .zero))).setPeer 6
      (qualified (report 1 100 3 15011 0 0 .report .zero))
    (after (.evaluation course)
      { s with tracker := { s.tracker with latest := some 15090, comparison := some 15090 } }).draw
      = { run := 0
          result := some
            { evaluation := 1, outcome := .assessed 15090 60, upstreamCount := 2, upstreamSpeed := some 15000,
              run := 0 } } := by decide

/-- R87: a drop by a gate end that falls between the engine's work and the frame makes this frame carry 0. -/
theorem test_evaluation_late_drop :
    let s := nodeIn (.trim .full) 8 30
    let t := after (.evaluation { order := defaultOrder, late := [.gateEnd] }) s
    (after (.evaluation course) s).drive.lastWord = 30 ∧ t.control.mode = .report ∧ t.drive.lastWord = 0
      ∧ t.drive.sending = some [0xB2, 0, 0, 0, 0xB2] := by decide

/-- R42, R27: a report whose attempt begins between the work and the frame carries the trim word last sent; one that
begins after the evaluation carries the new one. -/
theorem test_evaluation_late_attempt :
    let s := nodeIn (.trim .full) 8 30
    let t := after (.evaluation { order := defaultOrder, late := [.attempt] }) s
    let carried (t : State) : Option (List Byte) := t.line.attempt.map fun a => (a.frame.drop 14).take 2
    carried t = some [0, 0] ∧ carried (after .attempt (after (.evaluation course) s)) = some [0, 30]
      ∧ t.drive.lastWord = 30 := by decide

/-- R136: in TEST no attempt begins while the new offset is in no frame yet; the next report carries the new level with
the new offset. -/
theorem test_evaluation_late_attempt_testing :
    let t := after (.evaluation { order := defaultOrder, late := [.attempt] }) (testing 1 0 0 15000)
    t.line.attempt = none
      ∧ (after .attempt t).line.attempt.map (fun a => (a.frame.drop 14).take 3) = some [0xFF, 0xD8, 1] := by decide

/-- R136: between START_TEST and the first evaluation in TEST a report carries 0, whatever the drive was last sent. -/
theorem test_attempt_before_first_evaluation :
    let s := { node with
      excitation := Excitation.atReset (some pattern)
      drive := { node.drive with lastWord := 40 }, line := { node.line with reportDue := true } }
    let carried (t : State) : Option (List Byte) := t.line.attempt.map fun a => (a.frame.drop 14).take 3
    carried (after .attempt s) = some [0, 40, 0]
      ∧ carried (after .attempt { after (.startTest head []) s with line := s.line, handler := s.handler })
        = some [0, 0, 0] := by decide

/-- The node one bad frame short of a loss of step, two peers of 14990 and 15011 mm/s upstream (R34, R61). -/
def twoUpstream : State :=
  let s := (node.setPeer 5 (qualified (report 1 100 3 14990 0 0 .report .zero))).setPeer 6
    (qualified (report 1 100 3 15011 0 0 .report .zero))
  { s with line := { s.line with step := .inStep, badRun := 2 } }

/-- R66: a loss of step while the draw verifier reads the table is seen of the entry it has not read yet alone. -/
theorem test_evaluation_loss_of_step_partly_seen :
    let t := after
      (.evaluation { order := defaultOrder, during := [{ before := .drawVerifier, event := .badFrame, read := [5] }] })
      twoUpstream
    (t.peer 5).state = .probation ∧ (t.peer 6).state = .probation
      ∧ t.draw.result.map (fun r => (r.upstreamCount, r.upstreamSpeed)) = some (1, some 14990) := by decide

/-- R66: a report between two readers of one evaluation is seen by the second alone. -/
theorem test_evaluation_report_between_readers :
    let event := TableEvent.report 0 6 (composeReport { report 2 100 3 15031 0 0 .test .zero with sequence := 2 })
    let upstream (e : EvalWork) : Option (Option Nat) :=
      (after (.evaluation { order := defaultOrder, during := [{ before := e, event := event, read := [] }] })
        twoUpstream).draw.result.map fun r => r.upstreamSpeed
    upstream .balanceEngine = some (some 15010) ∧ upstream .drawVerifier = some (some 15010)
      ∧ upstream .excitationUnit = some (some 15000) := by decide

/-- R66: the balance engine sees a member demoted by a loss of step only where it has not read its entry yet. -/
theorem test_evaluation_loss_of_step_balance :
    let s := { twoUpstream with drive := { node.drive with count := 1, sum := 1500 } }
    let members (read : List Nat) : Option Nat :=
      (after (.evaluation
        { order := defaultOrder, during := [{ before := .balanceEngine, event := .badFrame, read := read }] })
        s).balance.result.map fun r => r.members
    members [] = some 1 ∧ members [5] = some 2 ∧ members [5, 6] = some 3 := by decide

/-! ### The peers (the worked examples of spec/04 and spec/09) -/

/-- Peer 12's sequence 20 after 18 is a break: pass count 1, disqualification count 1. -/
theorem test_report_break :
    let r := report 18 100 3 15000 0 0 .report .zero
    let s := node.setPeer 12 { qualified r with state := .probation, passCount := 2 }
    ((after (.reportArrival 30000 12 (composeReport { r with sequence := 20 })) s).peer 12)
      = { qualified { r with sequence := 20 } with
          state := .probation, passCount := 1, disqualification := 1, deadline := some 50000 } := by decide

/-- A flags byte whose summary code is 3 is refused (R50, R192). -/
theorem test_report_summary_code_three :
    (after (.reportArrival 0 12
      [1, 4, 100, 3, 10, 1, 0x0D, 0x3A, 0x98, 0, 0, 0, 0, 0, 0, 0]) node).peer 12 = PeerEntry.atReset
      ∧ ((after (.reportArrival 0 12
        [1, 4, 100, 3, 10, 1, 0x09, 0x3A, 0x98, 0, 0, 0, 0, 0, 0, 0]) node).peer 12).passCount = 1 := by decide

/-- Peer 12 falls silent: at 70 ms PEER_LOST is raised with source 12. -/
theorem test_watchdog_expiry :
    let t := after (.watchdogExpiry { moment := 70000, station := 12 })
      (node.setPeer 12 (qualified (report 22 100 3 15000 0 0 .report .zero)))
    (t.peer 12).passCount = 0
      ∧ t.fault.firstWarn = .locked { kind := .peerLost, source := 12, evaluation := 0 } := by decide

/-- R60, the report taken first: it re-arms the deadline, and the expiry does not happen. -/
theorem test_watchdog_after_report :
    let r := report 22 100 3 15000 0 0 .report .zero
    let t := after (.reportArrival 20000 12 (composeReport { r with sequence := 23 })) (node.setPeer 12 (qualified r))
    after (.watchdogExpiry { moment := 20000, station := 12 }) t = t ∧ (t.peer 12).passCount = 3 := by decide

/-- A demotion after the evaluation that judged a final mark finds the marker clear, and one before it abandons (R152,
R155, log entry 29). -/
theorem test_final_mark_and_demotion :
    let s := watching .zero (.counting 8 .up 1500 1 none true) 3 0
    let expiry : Instr := .watchdogExpiry { moment := 70000, station := 8 }
    ((after expiry (after (.evaluation course) s)).peer 8).verdict = some .coupled
      ∧ ((after (.evaluation course) (after expiry s)).peer 8).verdict = some .undetermined := by decide

/-- Evaluation 605: 1320 against a baseline of 1500 over a step up is seen. -/
theorem test_evaluation_coupling :
    let s := watching .plus (.counting 8 .up 1500 1 none false) 0 0
    let t := after (.evaluation course) { s with drive := { s.drive with count := 1, sum := 1320 } }
    t.observation = .empty ∧ (t.peer 8).seen = 1 := by decide

/-- The end of peer 8's test after three observations seen gives COUPLED. -/
theorem test_report_ends_test :
    let t := after (.reportArrival 0 8 (composeReport (report 8 100 3 15000 0 0 .report .zero)))
      (watching .zero .empty 3 0)
    (t.peer 8).verdict = some .coupled ∧ t.fault.status = 0 := by decide

/-! ### The section line (the worked examples of spec/03) -/

set_option maxRecDepth 4096 in
/-- The CRC of R30 over "123456789" has the catalogued check value 29B1 hex (CRC-16 of this polynomial with an initial
value of all ones), computed outside the model. -/
theorem test_crc : crc [0x31, 0x32, 0x33, 0x34, 0x35, 0x36, 0x37, 0x38, 0x39] = 0x29B1 := by decide

/-- Node 9's REPORT contention value is 137 and its ANSWER's 73. -/
theorem test_contention : contention 2 9 = 137 ∧ contention 1 9 = 73 ∧ contention 0 60 = 60 := by decide

set_option maxRecDepth 20000 in
/-- An own station in a good REPORT is an identity clash, source 9 (R36). -/
theorem test_good_frame_clash :
    let t := after (.goodFrame 0 (frameChars 137 (List.replicate 16 0))) node
    t.control.mode = .hold ∧ t.fault.status = 2 := by decide

/-- The third bad frame in a row takes the receiver out of step. -/
theorem test_bad_frame_loses_step :
    let t := after .badFrame { node with line := { node.line with badRun := 2, badFrames := 9 } }
    t.line.step = .outOfStep ∧ t.line.badFrames = 10 ∧ t.fault.status = 0x8010 := by decide

/-- A pending report goes out with the contention value 137 and the next sequence number. -/
theorem test_attempt :
    ((after .attempt { node with line := { node.line with reportDue := true, sequence := 41 } }).line.attempt.map
      fun a => a.frame.take 4) = some [0x5A, 137, 16, 41] := by decide

theorem test_contention_lost :
    (after .contentionLost (sending .report .contending false [])).line.tx = .deferring := by decide

theorem test_payload_bit_loss :
    (after .payloadBitLoss (sending .report .sending false [])).control.mode = .hold := by decide

theorem test_faulty_bit :
    let t := after .faultyBitAbort (sending .report .sending false [])
    t.line.badFrames = 1 ∧ t.line.reportDue = true := by decide

/-- "Report sent whole": next sequence 42, 1201 reports sent, the slot empty. -/
theorem test_report_sent :
    let t := after .reportSent (sending .report .sending false [])
    t.line.sequence = 42 ∧ t.line.reportsSent = 1201 ∧ t.line.reportDue = false ∧ t.line.tx = .idle := by decide

theorem test_answer_sent :
    let t := after .answerSent (sending .answer .sending false [answer false])
    t.handler.queue = [] ∧ t.line.tx = .deferring := by decide

/-- R40: the attempt starts first; the answer queued during it waits until it has ended. -/
theorem test_directive_during_attempt :
    let t := after (.setMode head [2]) (sending .report .sending false [])
    t.handler.queue.length = 1 ∧ t.line.attempt.isSome = true ∧ t.line.tx = .sending
      ∧ (after .reportSent t).line.tx = .deferring := by decide

/-- R41: at entry to LISTEN an attempt in progress goes on and its frame counts as sent, and the slot is empty. -/
theorem test_listen_during_attempt :
    let t := after (.setMode head [1]) (sending .report .sending true [])
    t.control.mode = .listen ∧ t.line.attempt.isSome = true ∧ t.line.reportDue = false
      ∧ (after .reportSent t).line.sequence = 42 ∧ (after .reportSent t).line.reportDue = false := by decide

/-- R177: a directive that finds the queue full during its head's own attempt is dropped, and counted. -/
theorem test_overflow_during_attempt :
    let t := after (.startTest head []) (sending .answer .sending false (List.replicate 4 (answer false)))
    t.handler.dropped = 1 ∧ t.fault.status = 0x4000 ∧ (after .answerSent t).handler.queue.length = 3 := by decide

theorem test_line_idle :
    (after .lineIdle { node with line := { node.line with rx := .waitIdle } }).line.rx = .ready := by decide

/-! ### Directives (the worked examples of spec/06, spec/08 and spec/11) -/

/-- SET_MODE toward TRIM in FADE_OUT at a = 5 goes back to FADE_IN with a kept. -/
theorem test_set_mode_reverses :
    let t := after (.setMode head [3]) (nodeIn (.trim .fadeOut) 5 40)
    t.control = { mode := .trim .fadeIn, authority := 5, trim := 25, evaluations := 0 } := by decide

set_option maxRecDepth 4096 in
/-- The levels of R192: two bits a step, step 0 highest; 01 is +1, 11 is −1, 00 is 0. -/
theorem test_load_pattern :
    (after (.loadPattern head [3, 0x70, 0, 0, 0, 0, 0, 0, 0, 3, 0, 40, 0, 15, 0x20]) node).excitation.pattern
      = some pattern := by decide

theorem test_start_test :
    let t := after (.startTest head []) { node with excitation := Excitation.atReset (some pattern) }
    t.control.mode = .test ∧ t.excitation.baseline = 15043 := by decide

/-- START_TEST over a final mark whose verdict INVERTED is a TRIP-class mismatch: answered DONE, and the new test is
aborted (log entry 26). -/
theorem test_start_test_mismatch :
    let s := { watching .plus (.counting 8 .up 1500 2 none true) 0 0 with
      excitation := Excitation.atReset (some pattern), fault := { node.fault with classMap := 0x200F } }
    let t := after (.startTest head []) (s.setPeer 8 { s.peer 8 with contrary := 3 })
    t.control.mode = .report ∧ t.excitation.verdict.map (fun v => v.outcome) = some .aborted
      ∧ t.handler.queue.map (fun a => a.outcome) = [.done] := by decide

/-- A test aborted in step 1: one step completed. -/
theorem test_stop_test :
    (after (.stopTest head []) (testing 1 2 0 15000)).excitation.verdict
      = some { outcome := .aborted, count := 0, steps := 1, baseline := 15000 } := by decide

/-- Evaluation 309 ends the test with PASS. -/
theorem test_evaluation_ends_test :
    let t := after (.evaluation course) (testing 2 2 1 14996)
    t.control.mode = .report
      ∧ t.excitation.verdict = some { outcome := .pass, count := 1, steps := 3, baseline := 15000 } := by decide

theorem test_clear_faults :
    (after (.clearFaults head [0x00, 0x04]) { node with fault := { node.fault with status := 0x0804 } }).fault.status
      = 0x0800 := by decide

/-- TUNE k = 5000 is clamped to 4095 and answered CLAMPED. -/
theorem test_tune_clamps :
    let t := after (.tune head 1 [0x13, 0x88]) node
    t.handler.tuning.shareGain = 4095 ∧ t.handler.queue.map (fun a => a.outcome) = [.clamped] := by decide

theorem test_tune_pin : (after (.tuneGatePin head [0, 9]) node).tracker.requested = some 7 := by decide

theorem test_tune_detect_mask :
    let t := after (.tuneDetectMask head [5, 1]) { node with fault := { node.fault with status := 0x0010 } }
    t.fault.detectMask = 0x0010 ∧ t.fault.status = 0 := by decide

theorem test_tune_signal_mask : (after (.tuneSignalMask head [16, 0]) node).fault.signalMask = 0 := by decide

/-- What the last answer in the queue carries. -/
def answered (t : State) : Option (AnswerOutcome × List Byte) :=
  t.handler.queue.getLast?.map fun a => (a.outcome, a.data)

theorem test_read_node :
    answered (after (.readNode head [0]) (nodeIn (.trim .full) 8 (-30)))
      = some (.done, [2, 1, 1, 8, 0xFF, 0xE2, 2, 5, 0x3A, 0xC3, 1, 0, 0, 0, 1, 0, 0, 0]) := by decide

theorem test_read_peer : answered (after (.readPeer head [12]) node) = some (.done, [0]) := by decide

theorem test_read_peer_next : answered (after (.readPeerNext head [0]) node) = some (.done, [0]) := by decide

theorem test_read_faults :
    answered (after (.readFaults head [0]) node) = some (.done, [0, 0, 0, 0x0F, 0, 0, 0x80, 0]) := by decide

theorem test_read_counts :
    answered (after (.readCounts head [16]) node) = some (.done, [0])
      ∧ answered (after (.readCounts head [17]) node) = some (.badValue, []) := by decide

theorem test_read_first_trip : answered (after (.readFirstTrip head [0]) node) = some (.badValue, []) := by decide

theorem test_read_first_warn : answered (after (.readFirstWarn head [0]) node) = some (.badValue, []) := by decide

theorem test_read_pattern :
    answered (after (.readPattern head [0]) { node with excitation := Excitation.atReset (some pattern) })
      = some (.done, [3, 0x70, 0, 0, 0, 0, 0, 0, 0, 3, 0, 40, 0, 15, 0x20]) := by decide

theorem test_read_verdict : answered (after (.readVerdict head [0]) node) = some (.badValue, []) := by decide

theorem test_read_tuning :
    answered (after (.readTuning head [0]) node)
      = some (.done, [0, 16, 0, 100, 0, 10, 0, 200, 1, 44, 0, 50, 0, 20, 4, 0, 100, 0]) := by decide

theorem test_read_snapshot : answered (after (.readSnapshot head [0]) node) = some (.badValue, []) := by decide

/-- "Tag 7": the directives-taken counter moves before the copy. -/
theorem test_snapshot :
    (after (.snapshot head []) node).handler.snapshot.map (fun c => c.directivesTaken) = some 1 := by decide

theorem test_reset_answers_first :
    let t := after (.reset head []) node
    t.control.mode = .report ∧ t.handler.queue = [answer true] := by decide

theorem test_unknown_kind : answered (after (.unknownKind head 10 []) node) = some (.unknown, []) := by decide

/-- R138's table: 31, 37, 100 and 8160. -/
theorem test_float_codes :
    floatEncode 31 = 0x82 ∧ floatEncode 37 = 0xA2 ∧ floatEncode 100 = 0xD3 ∧ floatEncode 8160 = 0x8A
      ∧ floatEncode 600000 = 0xFF := by decide

/-! ### Witnesses: for each statement with hypotheses, a state and operands that meet them

Named `witness_` and the statement's name, with the clause where it has several. -/

/-- A sound listening node: START's end on the worked examples' record. -/
def listening : State := { node with control := { node.control with mode := .listen }, tracker := Tracker.atReset 2 }

theorem witness_StepRunsFrontCommand :
    (sending .report .contending false []).pending = [] ∧ (sending .report .contending false []).line.tx = .contending
      ∧ node.pending = [] ∧ node.line.tx ≠ .contending ∧ node.drive.sending = none
      ∧ (after (.evaluation course) node).pending = [] ∧ (after (.evaluation course) node).drive.sending ≠ none := by
  decide

theorem witness_SoftResetState :
    let s := sending .answer .sending false [answer true]
    s.control.mode.lineOn = true ∧ s.startUnit.image = some image
      ∧ s.line.attempt = some { source := .answer, frame := [] } ∧ s.handler.queue = answer true :: []
      ∧ (answer true).resets = true := by decide

theorem witness_StartEndsInListen_record :
    State.reset.StartOk ∧ State.reset.control.mode = .start ∧ State.reset.startUnit.phase = .reading
      ∧ recordGood record = true := by decide

theorem witness_StartEndsInListen_reapplied :
    let s := after .answerSent (sending .answer .sending false [answer true])
    s.StartOk ∧ s.control.mode = .start ∧ s.startUnit.phase = .reapplying := by decide

theorem witness_BadRecordEndsInHold :
    State.reset.StartOk ∧ State.reset.control.mode = .start ∧ State.reset.startUnit.phase = .reading
      ∧ recordSum (record.set 3 1) ≠ 0 ∧ recordWord (record.set 0 0) 0 = 0 ∧ 40 < recordWord (record.set 0 41) 0 := by
  decide

theorem witness_StartRecordRoundTrip :
    image.InRange ∧ 1 ≤ image.station ∧ record.length = 48 ∧ recordGood record = true := by decide

/-- The same record with a group word of 16 and its check word one pair less: the group clamped to 15, the flag set. -/
theorem witness_StartRecordRoundTrip_clamped :
    let r := (record.set 2 16).set 46 0x67
    r.length = 48 ∧ recordGood r = true ∧ recordImage r = { image with group := 15 } ∧ recordClamped r = true := by
  decide

theorem witness_StartAndHoldAreLeftByResets :
    State.reset.control.mode = .start ∧ (nodeIn .hold).control.mode = .hold
      ∧ Instr.encoderEdge ≠ .hardwareReset ∧ Instr.encoderEdge ≠ .resetPinAsserted ∧ Instr.encoderEdge ≠ .softStartEnd
      ∧ (∀ r, Instr.encoderEdge ≠ .startCheck r) := by
  refine ⟨by decide, by decide, by decide, by decide, by decide, fun r h => by cases h⟩

theorem witness_EdgeIsCounted : node.control.mode ≠ .start := by decide

theorem witness_AcquireFullGate :
    let s := acquiring 6 16 (some 504) 3 0
    let pinned := { s with tracker := { s.tracker with requested := some 7 } }
    s.control.mode ≠ .start ∧ s.tracker.state = .acquire ∧ 16 ≤ s.tracker.edges
      ∧ pinned.tracker.state = .acquire ∧ 16 ≤ pinned.tracker.edges := by decide

theorem witness_AcquireThinGate :
    let s := acquiring 6 15 none 0 3
    let pinned := { s with tracker := { s.tracker with edges := 0, requested := some 6, pin := some 6 } }
    s.control.mode ≠ .start ∧ s.tracker.state = .acquire ∧ s.tracker.edges < 16
      ∧ pinned.tracker.state = .acquire ∧ pinned.tracker.edges < 16 := by decide

theorem witness_LockedGate :
    let kept (s : State) : State := { s with tracker := { s.tracker with edges := 343 } }
    node.control.mode ≠ .start ∧ node.control.mode.hasAuthority = false ∧ node.tracker.state = .locked
      ∧ node.tracker.comparison = some 15043 ∧ (kept (nodeIn (.trim .full) 8 40)).tracker.comparison = some 15043
      ∧ (after .gateEnd (kept (nodeIn (.trim .full) 8 40))).tracker.state = .locked
      ∧ (kept (testing 0 0 0 15000)).tracker.comparison = some 15000
      ∧ (after .gateEnd (kept (testing 0 0 0 15000))).tracker.state = .locked := by decide

theorem witness_StandstillGate :
    let s := { node with tracker := { Tracker.atReset 6 with state := .standstill, edges := 16 } }
    s.SettingsOk ∧ s.control.mode ≠ .start ∧ s.tracker.state = .standstill ∧ s.tracker.latest = none
      ∧ s.tracker.comparison = none ∧ s.tracker.unlocked = 0 ∧ s.tracker.emptyRun = 0 := by decide

theorem witness_PinAtGateEnd_pinned :
    let s := { node with tracker := { node.tracker with requested := some 7, edges := 16 } }
    s.control.mode ≠ .start ∧ s.tracker.requested = some 7 ∧ 7 ≠ s.tracker.rung ∧ s.tracker.state = .locked
      ∧ 16 ≤ s.tracker.edges ∧ s.tracker.excursions = 0 := by decide

theorem witness_PinAtGateEnd_released :
    let s := { node with tracker := { node.tracker with pin := some 5 } }
    s.control.mode ≠ .start ∧ s.tracker.requested = none ∧ s.tracker.pin.isSome = true
      ∧ s.image.floorRung ≤ s.image.topRung ∧ s.tracker.state ≠ .standstill
      ∧ (after .gateEnd s).tracker.state ≠ .standstill := by decide

theorem witness_SpeedLossDropsTrim_thin :
    let s := { nodeIn (.trim .full) 8 47 with tracker := { node.tracker with edges := 15 } }
    s.LineOk ∧ s.control.mode.hasAuthority = true ∧ s.tracker.state = .locked ∧ s.tracker.comparison = some 15043
      ∧ s.tracker.edges < 16 ∧ s.fault.trips .speedLoss
      ∧ ({ s.fault with classMap := 0x0007 } : FaultUnit).warns .speedLoss := by decide

/-- 357 edges at rung 5 give 15657 mm/s, and 15657 − 15000 is beyond 2 · 156; under a pin. -/
theorem witness_SpeedLossDropsTrim_excursion :
    let t := testing 0 0 0 15000
    let s := { t with tracker := { t.tracker with edges := 357, excursions := 1, pin := some 5, requested := some 5 } }
    s.LineOk ∧ s.control.mode = .test ∧ s.tracker.state = .locked ∧ s.tracker.comparison = some 15000
      ∧ min 40000 (s.tracker.edges * s.image.edgeScale / (2 * 2 ^ s.tracker.rung)) = 15657
      ∧ 2 * max 2 (15657 * s.image.lockBand / 1000) < ((15657 : Int) - 15000).natAbs ∧ s.tracker.excursions = 1
      ∧ s.fault.trips .speedLoss := by decide

theorem witness_SpeedLossDropsTrim_masked :
    let s := classed 0x000F 0x0008 { testing 0 0 0 15000 with tracker := { node.tracker with edges := 15 } }
    s.LineOk ∧ s.FaultsOk ∧ s.control.mode.hasAuthority = true ∧ s.tracker.state = .locked
      ∧ s.tracker.comparison = some 15043 ∧ s.tracker.edges < 16 ∧ s.fault.masked .speedLoss := by decide

theorem witness_TorqueFrameTaken :
    let half := { node with drive := { node.drive with opened := [0xD1, 0x75] } }
    node.FaultsOk ∧ node.control.mode ≠ .start ∧ node.drive.opened.length ≤ 4
      ∧ node.drive.opened ++ ([0xD1] ++ [0x75, 0x30] ++ [1] ++ [0x77]) = [0xD1, 0x75, 0x30, 1, 0xD1 + 0x75 + 0x30 + 1]
      ∧ half.drive.opened ++ ([] ++ [0x31] ++ [1] ++ [0x78]) = [0xD1, 0x75, 0x31, 1, 0xD1 + 0x75 + 0x31 + 1]
      ∧ node.drive.count < 255 ∧ (1 : Byte).getLsbD 0 = true ∧ node.control.mode.hasAuthority = false
      ∧ node.fault.warns .torqueRange ∧ ((0x75 : Byte) ++ (0x30 : Byte)).toInt = 30000
      ∧ 30000 < ((0x75 : Byte) ++ (0x31 : Byte)).toInt ∧ ((0x8A : Byte) ++ (0xCF : Byte)).toInt < -30000 := by decide

/-- TORQUE_RANGE in TRIP class outside TRIM and TEST, and detect-masked. -/
theorem witness_TorqueFrameTaken_classes :
    (classed 0x080F 0 node).FaultsOk ∧ (classed 0x080F 0 node).fault.trips .torqueRange
      ∧ node.control.mode.hasAuthority = false ∧ (classed 0x000F 0x0800 node).FaultsOk
      ∧ (classed 0x000F 0x0800 node).fault.masked .torqueRange := by decide

/-- TORQUE_RANGE in TRIP class in TRIM. -/
theorem witness_TorqueFrameTaken_drop :
    let s := classed 0x080F 0 (nodeIn (.trim .full) 8 40)
    s.FaultsOk ∧ s.LineOk ∧ s.fault.trips .torqueRange ∧ s.control.mode.hasAuthority = true := by decide

/-- The node in TEST with these classes and masks, where a not-ready frame sends its notice. -/
abbrev MayBeNotReady (classMap detectMask : KindSet) : Prop :=
  let s := classed classMap detectMask (testing 1 2 0 15000)
  s.LineOk ∧ s.FaultsOk ∧ s.control.mode.hasAuthority = true ∧ s.drive.posted = false

/-- DRIVE_LINK in WARN class, with TORQUE_RANGE in WARN and in TRIP class. -/
theorem witness_NotReadyAbortsTest_warn :
    MayBeNotReady 0x000B 0 ∧ (classed 0x000B 0 node).fault.warns .driveLink
      ∧ (classed 0x000B 0 node).fault.warns .torqueRange ∧ MayBeNotReady 0x080B 0
      ∧ (classed 0x080B 0 node).fault.warns .driveLink ∧ (classed 0x080B 0 node).fault.trips .torqueRange := by
  refine ⟨?_, ?_, ?_, ?_, ?_, ?_⟩ <;> decide

/-- DRIVE_LINK detect-masked, with TORQUE_RANGE in TRIP and in WARN class; and TORQUE_RANGE detect-masked. -/
theorem witness_NotReadyAbortsTest_masked :
    MayBeNotReady 0x080F 4 ∧ (classed 0x080F 4 node).fault.masked .driveLink
      ∧ (classed 0x080F 4 node).fault.trips .torqueRange ∧ MayBeNotReady 0x000F 4
      ∧ (classed 0x000F 4 node).fault.warns .torqueRange ∧ MayBeNotReady 0x000F 0x0800
      ∧ (classed 0x000F 0x0800 node).fault.trips .driveLink ∧ (classed 0x000F 0x0800 node).fault.masked .torqueRange := by
  refine ⟨?_, ?_, ?_, ?_, ?_, ?_, ?_, ?_⟩ <;> decide

/-- R21: in WARN class the notice is posted and the test goes on; the next not-ready frame raises nothing. -/
theorem test_not_ready_warn_posts :
    let frame := Instr.torqueFrame [0xD1] [0, 0] [0] [0xD1]
    let t := after frame (classed 0x000B 0 (testing 1 2 0 15000))
    t.drive.posted = true ∧ t.control.mode = .test ∧ t.excitation.running = true ∧ t.fault.counts[2] = 1
      ∧ (after frame t).fault.counts[2] = 1 := by decide

theorem witness_NotReadyAbortsTest :
    let s := testing 1 2 0 15000
    s.LineOk ∧ s.FaultsOk ∧ s.control.mode.hasAuthority = true ∧ s.drive.opened.length ≤ 4
      ∧ s.drive.opened ++ ([0xD1] ++ [0x75, 0x31] ++ [0] ++ [0x77]) = [0xD1, 0x75, 0x31, 0, 0xD1 + 0x75 + 0x31 + 0]
      ∧ s.drive.count < 255 ∧ (0 : Byte).getLsbD 0 = false ∧ s.drive.posted = false ∧ s.fault.trips .driveLink
      ∧ 30000 < ((0x75 : Byte) ++ (0x31 : Byte)).toInt ∧ ((0x75 : Byte) ++ (0x30 : Byte)).toInt = 30000
      ∧ s.fault.warns .torqueRange ∧ ({ s.fault with classMap := 0x080F } : FaultUnit).trips .torqueRange := by decide

theorem witness_NotReadyAbortsTest_trim :
    let s := nodeIn (.trim .fadeOut) 5 40
    s.LineOk ∧ s.control.mode.hasAuthority = true ∧ s.drive.posted = false ∧ s.fault.trips .driveLink := by decide

theorem witness_TorqueFrameDiscarded :
    let half := { node with drive := { node.drive with opened := [0xD1, 0, 0, 0] } }
    node.control.mode ≠ .start ∧ half.drive.opened.length ≤ 4 ∧ half.drive.opened ≠ [] ∧ node.drive.opened = []
      ∧ half.drive.opened ++ ([] ++ [] ++ [] ++ [0]) = [0xD1, 0, 0, 0, 0] ∧ (0 : Byte) ≠ 0xD1 + 0 + 0 + 0
      ∧ 255 ≤ { node with drive := { node.drive with count := 255 } }.drive.count
      ∧ (half.drive.opened ++ ([] ++ [] ++ [] ++ [])).length ≤ 4
      ∧ ([0x12] ++ [0xD1] ++ [5] ++ [] : List Byte) = [0x12] ++ [0xD1, 5] ∧ (0x12 : Byte) ≠ 0xD1 := by decide

theorem witness_EvaluationClosesAccumulator :
    let s := { nodeIn (.trim .full) 8 40 with drive := { node.drive with staleRun := 2 } }
    node.control.mode ≠ .start ∧ node.drive.count = 0
      ∧ 1 ≤ { node with drive := { node.drive with count := 1 } }.drive.count ∧ s.drive.count = 0
      ∧ s.drive.staleRun = 2 ∧ s.control.mode.hasAuthority = true ∧ s.fault.trips .driveLink ∧ s.AuthorityOk
      ∧ s.fault.classMap &&& 0x3780 = 0 ∧ s.fault.firstTrip = .empty := by decide

theorem witness_EvaluationSendsReference :
    node.control.mode.lineOn = true ∧ node.control.mode ≠ .listen ∧ node.line.attempt = none
      ∧ listening.control.mode.lineOn = true ∧ listening.control.mode = .listen := by decide

/-- An evaluation with a clash on the line before its frame: HOLD, and no frame. -/
theorem witness_EvaluationSendsReference_late :
    let t := after (.evaluation { order := defaultOrder, late := [.payloadBitLoss] }) (sending .report .sending false [])
    t.control.mode = .hold ∧ t.drive.sending = none := by decide

/-- An evaluation with a report of the own station within its works: HOLD, and no frame. -/
theorem witness_EvaluationSendsReference_during :
    let event := TableEvent.report 0 9 (composeReport (report 1 100 3 15000 0 0 .report .zero))
    let t := after
      (.evaluation { order := defaultOrder, during := [{ before := .fadeStep, event := event, read := [] }] }) node
    t.control.mode = .hold ∧ t.drive.sending = none := by decide

/-- An evaluation with a RESET's answer sent whole before its frame: START, and no frame. -/
theorem witness_EvaluationSendsReference_reset :
    let s := sending .answer .sending false [answer true]
    let t := after (.evaluation { order := defaultOrder, late := [.answerSent] }) s
    s.control.mode.lineOn = true ∧ t.control.mode = .start ∧ t.drive.sending = none := by decide

theorem witness_EvaluationFadesTrim :
    (nodeIn (.trim .fadeIn) 7 40).control.mode = .trim .fadeIn ∧ (nodeIn (.trim .full) 8 40).Calm
      ∧ (nodeIn (.trim .fadeOut) 2 40).control.mode = .trim .fadeOut
      ∧ (after (.evaluation course) (nodeIn (.trim .fadeOut) 2 40)).control.mode.isTrim = true
      ∧ (after (.evaluation course) (nodeIn (.trim .fadeOut) 1 40)).control.mode.isTrim = false := by decide

theorem witness_ShareIsAssessed :
    let s := (nodeIn (.trim .full) 8 6).setPeer 7 (qualified (report 1 100 3 15000 4200 (-12) .trim .zero))
    let s := { s with drive := { s.drive with count := 1, sum := 1500 } }
    s.Calm ∧ s.control.mode.lineOn = true ∧ s.control.mode ≠ .test ∧ s.control.mode ≠ .trim .fadeOut
      ∧ s.tracker.state = .locked ∧ 1 ≤ s.drive.count ∧ s.image.group ≠ 0 ∧ s.groupPeers ≠ [] := by decide

/-- Fade-in one step short of FULL, in an order that takes the fade step first. -/
theorem witness_ShareIsAssessed_full :
    let s := (nodeIn (.trim .fadeIn) 7 6).setPeer 7 (qualified (report 1 100 3 15000 4200 (-12) .trim .zero))
    let s := { s with drive := { s.drive with count := 1, sum := 1500 } }
    s.Calm ∧ s.control.mode.lineOn = true ∧ s.tracker.state = .locked ∧ 1 ≤ s.drive.count ∧ s.groupPeers ≠ []
      ∧ s.control.mode = .trim .fadeIn ∧ s.control.authority + 1 = s.image.fadeLength
      ∧ (scheduleOf defaultOrder).idxOf .fadeStep < (scheduleOf defaultOrder).idxOf .balanceEngine := by decide

/-- A fade-out that goes on at the evaluation, and one that ends at it. -/
theorem witness_ShareIsAssessed_fadeOut :
    let fading (a : Nat) : State :=
      let s := (nodeIn (.trim .fadeOut) a 6).setPeer 7 (qualified (report 1 100 3 15000 4200 (-12) .trim .zero))
      { s with drive := { s.drive with count := 1, sum := 1500 } }
    (fading 1).Calm ∧ (fading 2).Calm ∧ (fading 1).control.mode = .trim .fadeOut ∧ (fading 1).control.authority ≤ 1
      ∧ ¬(fading 2).control.authority ≤ 1 ∧ (fading 1).tracker.state = .locked ∧ 1 ≤ (fading 1).drive.count
      ∧ (fading 1).groupPeers ≠ [] ∧ (fading 2).groupPeers ≠ [] := by decide

/-- What `ShareIsUnassessed` asks besides the reason. -/
abbrev MayBeUnassessed (s : State) : Prop := s.Calm ∧ s.control.mode.lineOn = true

theorem witness_ShareIsUnassessed_fadeOut :
    let s := nodeIn (.trim .fadeOut) 1 40
    MayBeUnassessed s ∧ s.control.mode = .trim .fadeOut ∧ s.control.authority ≤ 1 ∧ s.tracker.state = .locked
      ∧ s.drive.count = 0 ∧ ¬(nodeIn (.trim .fadeOut) 2 40).control.authority ≤ 1
      ∧ (scheduleOf defaultOrder).idxOf .fadeStep < (scheduleOf defaultOrder).idxOf .balanceEngine := by decide

theorem witness_ShareIsUnassessed_speed :
    MayBeUnassessed listening ∧ listening.tracker.state ≠ .locked ∧ listening.control.mode ≠ .test := by decide

theorem witness_ShareIsUnassessed_torque :
    MayBeUnassessed node ∧ node.tracker.state = .locked ∧ node.drive.count = 0 ∧ node.control.mode ≠ .test := by decide

/-- Station 9 in TRIM with one frame of torque and no peer. -/
def alone (groupShort : Bool) : State :=
  { nodeIn (.trim .full) 8 36 with
    drive := { node.drive with count := 1, sum := 1640 }
    balance := { Balance.atReset with integrator := 36, groupShort := groupShort } }

theorem witness_ShareIsUnassessed_short :
    MayBeUnassessed (alone false) ∧ (alone false).tracker.state = .locked ∧ (alone false).drive.count ≠ 0
      ∧ (alone false).image.group ≠ 0 ∧ (alone false).control.mode ≠ .test ∧ (alone false).groupPeers = []
      ∧ (alone false).control.mode.isTrim = true ∧ (alone false).fault.detectMask = 0
      ∧ (alone false).balance.groupShort = false ∧ MayBeUnassessed (alone true)
      ∧ (alone true).balance.groupShort = true ∧ (alone true).groupPeers = [] := by decide

theorem witness_ShareIsUnassessed_group :
    let s := { alone false with startUnit := { node.startUnit with image := some { image with group := 0 } } }
    MayBeUnassessed s ∧ s.tracker.state = .locked ∧ s.drive.count ≠ 0 ∧ s.image.group = 0 ∧ s.control.mode ≠ .test := by
  decide

theorem witness_ShareIsUnassessed_test :
    let s := { testing 0 1 0 15000 with drive := { node.drive with count := 1, sum := 1640 } }
    MayBeUnassessed s ∧ s.tracker.state = .locked ∧ s.drive.count ≠ 0 ∧ s.image.group ≠ 0 ∧ s.control.mode = .test
      ∧ s.excitation.pattern = some pattern ∧ s.excitation.position + 1 ≠ pattern.hold := by decide

theorem witness_DrawIsVerified : node.control.mode.lineOn = true := by decide

theorem witness_DrawIsVerified_event :
    twoUpstream.control.mode.lineOn = true
      ∧ (twoUpstream.through [TableEvent.command .badFrame]).control.mode.lineOn = true
      ∧ ((twoUpstream.through [TableEvent.command .badFrame]).peer 6).state ≠ (twoUpstream.peer 6).state := by decide

theorem witness_TestEvaluation :
    (testing 0 0 0 15000).Calm ∧ (testing 0 0 0 15000).control.mode = .test
      ∧ (testing 0 0 0 15000).excitation.pattern = some pattern
      ∧ (testing 0 0 0 15000).excitation.position + 1 ≠ pattern.hold
      ∧ (testing 1 2 0 15000).excitation.position + 1 = pattern.hold
      ∧ (testing 1 2 0 15000).excitation.stepIndex + 1 ≠ pattern.levels.length
      ∧ (testing 2 2 0 15000).excitation.position + 1 = pattern.hold
      ∧ (testing 2 2 0 15000).excitation.stepIndex + 1 = pattern.levels.length := by decide

theorem witness_ObservationAtEvaluation :
    let s := watching .plus (.counting 8 .up 1500 1 none false) 0 0
    let trimming := { s with control := { s.control with mode := .trim .full, authority := 8 } }
    let final := watching .plus (.counting 8 .up 1500 1 none true) 0 3
    8 ∈ stations ∧ s.control.mode.lineOn = true ∧ s.control.mode ≠ .test ∧ s.observation.peer? = some 8
      ∧ (watching .plus (.pending 8 .up 4) 0 0).observation.peer? = some 8 ∧ trimming.control.mode ≠ .test
      ∧ trimming.observation.peer? = some 8 ∧ final.observation = .counting 8 .up 1500 1 none true
      ∧ final.Disagrees (final.peer 8).missedOnce.concluded ∧ final.fault.detectMask.getLsbD 13 = false := by decide

theorem witness_ReportStartsOrContinues :
    let old := report 17 100 3 15000 0 0 .report .zero
    let r := { old with sequence := 18 }
    let s := node.setPeer 12 { qualified old with state := .probation, passCount := 2 }
    let tested := node.setPeer 12 (qualified (report 17 100 3 15000 0 0 .test .plus))
    node.Open ∧ s.Open ∧ 12 ≠ s.own ∧ r.inRange = true ∧ s.line.attempt = none ∧ (s.peer 12).marker = false
      ∧ r.contents.mode ≠ .test ∧ (node.peer 12).state = .absent
      ∧ ¬((s.peer 12).state = .absent ∨ ((s.peer 12).state = .probation ∧ (s.peer 12).passCount = 0))
      ∧ (s.peer 12).stored = some old ∧ r.sequence = old.sequence + 1 ∧ r.shape = old.shape
      ∧ (tested.peer 12).marker = false ∧ ∀ o ∈ (tested.peer 12).stored, o.contents.mode = .test := by decide

/-- A followed peer's report with no transition: TEST at the same level, and REPORT again while the verdict waits. -/
theorem witness_ReportStartsOrContinues_followed :
    let tested := report 7 100 3 15000 0 0 .test .plus
    let s := watching .plus (.counting 8 .up 0 3 none false) 0 0
    let after := report 7 100 3 15000 0 0 .report .zero
    let waiting :=
      { node.setPeer 8 { qualified after with marker := true } with observation := .counting 8 .up 0 3 none true }
    (s.peer 8).marker = true ∧ (s.peer 8).stored = some tested ∧ ({ tested with sequence := 8 } : Report).inRange = true
      ∧ s.Open ∧ waiting.Open ∧ (waiting.peer 8).marker = true ∧ (waiting.peer 8).stored = some after
      ∧ ({ after with sequence := 8 } : Report).inRange = true ∧ after.contents.mode ≠ .test := by decide

/-- A report of another station is not the frame of an own attempt. -/
theorem witness_NotOwnFrame :
    let own := frameChars (contention 2 9) (composeReport (report 17 100 3 15000 0 0 .report .zero))
    let s := { node with line := { node.line with
      rx := .receiving, tx := .sending, attempt := some { source := .report, frame := own }, reportDue := true } }
    s.Open ∧ s.NotOwnFrame (contention 2 12) (composeReport (report 17 100 3 15000 0 0 .report .zero)) := by decide

theorem witness_ReportBreaks :
    let old := report 200 100 3 15000 0 0 .report .zero
    let r := { old with sequence := 203 }
    let s := node.setPeer 12 (qualified old)
    let t := watching .plus (.pending 8 .up 4) 0 0
    s.Open ∧ 12 ≠ s.own ∧ r.inRange = true ∧ s.line.attempt = none ∧ r.contents.mode ≠ .test
      ∧ s.fault.warns .peerUnsteady ∧ (s.peer 12).state ≠ .absent ∧ (s.peer 12).passCount ≠ 0
      ∧ (s.peer 12).stored = some old ∧ r.sequence ≠ old.sequence + 1
      ∧ { old with shape := { old.shape with weight := 99 } }.shape ≠ old.shape
      ∧ t.Open ∧ (t.peer 8).marker = true ∧ (t.peer 8).passCount ≠ 0 ∧ t.observation.peer? = some 8 := by decide

theorem witness_ReportRefused :
    node.Open ∧ 12 ≠ node.own ∧ node.line.attempt = none ∧ 15 < (16 : Byte).toNat := by decide

/-- The hypotheses that the three statements about a peer's test share. -/
abbrev Followed (s : State) (old r : Report) : Prop :=
  s.Open ∧ 8 ≠ s.own ∧ r.inRange = true ∧ s.line.attempt = none ∧ (s.peer 8).state ≠ .absent
    ∧ (s.peer 8).passCount ≠ 0 ∧ (s.peer 8).stored = some old ∧ r.sequence = old.sequence + 1 ∧ r.shape = old.shape

theorem witness_PeerTestBegins :
    let old := report 7 100 3 15000 0 0 .report .zero
    let r := report 8 100 3 15000 0 0 .test .plus
    let s := node.setPeer 8 (qualified old)
    let lapsed := node.setPeer 8 { qualified old with state := .probation, passCount := 0 }
    Followed s old r ∧ old.contents.mode ≠ .test ∧ r.contents.mode = .test ∧ s.observation = .empty
      ∧ s.fault.warns .peerUnsteady ∧ s.fault.warns .couplingMismatch ∧ (lapsed.peer 8).starts = true
      ∧ (lapsed.peer 8).stored = some old ∧ (s.peer 8).broken { r with sequence := 9 } = true := by decide

theorem witness_PeerTestBegins_final :
    let old := report 7 100 3 15000 0 0 .report .zero
    let s := node.setPeer 8 { qualified old with marker := true, quiet := 3 }
    let s := { s with observation := .counting 8 .up 1500 2 none true }
    s.Open ∧ (s.peer 8).stored = some old ∧ s.observation = .counting 8 .up 1500 2 none true
      ∧ (s.peer 8).marker = true ∧ s.Disagrees (s.peer 8).concluded ∧ s.fault.warns .couplingMismatch := by decide

theorem witness_PeerTestTransition :
    let old := report 7 100 3 15000 0 0 .test .zero
    let r := report 8 100 3 15000 0 0 .test .plus
    let s := watching .zero .empty 0 0
    Followed s old r ∧ old.contents.mode = .test ∧ r.contents.mode = .test ∧ (s.peer 8).marker = true
      ∧ old.contents.testLevel.toInt < r.contents.testLevel.toInt
      ∧ (report 8 100 3 15000 0 0 .test .minus).contents.testLevel.toInt < old.contents.testLevel.toInt := by decide

theorem witness_PeerTestEnds :
    let old := report 7 100 3 15000 0 0 .test .zero
    let r := report 8 100 3 15000 0 0 .report .zero
    let s := watching .zero .empty 3 0
    Followed s old r ∧ old.contents.mode = .test ∧ r.contents.mode ≠ .test ∧ (s.peer 8).marker = true
      ∧ s.fault.warns .couplingMismatch := by decide

theorem witness_WatchdogLapsesPeer :
    let s := node.setPeer 12 (qualified (report 22 100 3 15000 0 0 .report .zero))
    s.control.mode.lineOn = true ∧ (s.peer 12).deadline = some 20000 ∧ 20000 ≤ max s.clock 20000
      ∧ max s.clock 19999 < 20000 ∧ s.fault.warns .peerLost ∧ (nodeIn .hold).control.mode = .hold
      ∧ (node.peer 12).deadline = none ∧ s.Open ∧ 12 ≠ s.own ∧ s.line.attempt = none := by decide

theorem witness_GoodFrameIsRouted :
    1 ≤ (12 : BitVec 6).toNat ∧ (12 : BitVec 6).toNat ≤ 40 ∧ (12 : BitVec 6).toNat ≠ node.own ∧ node.Open
      ∧ (List.replicate 16 (0 : Byte)).length = 16 ∧ head.moment = 0 ∧ 60 ≤ head.terminal.toNat
      ∧ judgeFrame [0x5A, 0x81] = none := by decide

theorem witness_ClashLeadsToHold_frame :
    node.AuthorityOk ∧ node.LineOk ∧ node.fault.trips .idClash ∧ node.Open := by decide

theorem witness_ClashLeadsToHold_own : 1 ≤ node.own ∧ node.own ≤ 40 ∧ node.line.attempt = none := by decide

theorem witness_ClashLeadsToHold_sending :
    let s := sending .report .sending false []
    s.AuthorityOk ∧ s.LineOk ∧ s.fault.trips .idClash ∧ s.line.attempt ≠ none := by decide

theorem witness_BadFrameIsCounted_frame :
    node.LineOk ∧ node.fault.warns .lineCheck ∧ node.line.badRun + 1 ≠ node.image.badThreshold ∧ node.Open := by decide

theorem witness_AuthorityNeedsItsConditions_evaluation : ∀ moment chars, .goodFrame moment chars ∉ course.late := by
  intro moment chars h
  cases h

theorem witness_BadFrameIsCounted_masked :
    let s := classed 0x000F 0x8000 node
    s.LineOk ∧ s.FaultsOk ∧ s.fault.masked .lineCheck ∧ s.line.badRun + 1 ≠ s.image.badThreshold ∧ s.Open := by decide

theorem witness_BadFrameIsCounted_sending :
    let s := sending .report .sending false []
    s.LineOk ∧ s.fault.warns .lineCheck ∧ s.line.badRun + 1 ≠ s.image.badThreshold ∧ s.line.attempt ≠ none := by decide

theorem witness_LossOfStep :
    let s := { watching .plus (.pending 8 .up 4) 0 0 with line := { node.line with badRun := 2 } }
    s.control.mode.lineOn = true ∧ s.Open ∧ s.line.step = .inStep ∧ s.line.badRun + 1 = s.image.badThreshold
      ∧ s.fault.warns .lineStep ∧ s.fault.warns .lineCheck
      ∧ (∀ k ∈ s.observation.peer?, (s.peer k).marker = true ∧ (s.peer k).state ≠ .absent) := by decide

theorem witness_LossOfStep_sending :
    let s := sending .report .sending false []
    let s := { s with line := { s.line with badRun := 2 } }
    s.control.mode.lineOn = true ∧ s.line.step = .inStep ∧ s.line.badRun + 1 = s.image.badThreshold
      ∧ s.fault.warns .lineStep ∧ s.fault.warns .lineCheck ∧ s.observation.peer? = none ∧ s.line.attempt ≠ none := by
  decide

theorem witness_LineIdleAndAttempt :
    let s := { node with line := { node.line with rx := .waitIdle } }
    s.control.mode.lineOn = true ∧ s.line.rx = .waitIdle ∧ s.line.attempt = none
      ∧ node.control.mode.lineOn = true ∧ node.line.rx = .ready
      ∧ node.line.attempt = none ∧ node.handler.queue = [] ∧ node.line.reportDue = false
      ∧ { node with line := { node.line with reportDue := true } }.line.reportDue = true
      ∧ { node with handler := { node.handler with queue := [answer false] } }.handler.queue = answer false :: [] := by
  decide

theorem witness_AttemptEnds :
    (sending .report .contending false []).LineOk ∧ (sending .report .contending false []).line.attempt ≠ none
      ∧ (sending .report .contending false []).line.tx = .contending
      ∧ (sending .report .sending true []).control.mode.lineOn = true
      ∧ (sending .report .sending true []).line.attempt = some { source := .report, frame := [] }
      ∧ (sending .answer .sending false [answer false]).line.attempt = some { source := .answer, frame := [] }
      ∧ (sending .answer .sending false [answer false]).handler.queue = answer false :: []
      ∧ (answer false).resets = false := by decide

/-- The node takes directives in every mode in which the line works. -/
theorem witness_Takes :
    node.Takes head 15 ∧ listening.Takes head 15 ∧ (nodeIn (.trim .fadeIn) 5 40).Takes head 15
      ∧ (nodeIn (.trim .full) 8 40).Takes head 15 ∧ (nodeIn (.trim .fadeOut) 5 40).Takes head 15
      ∧ (testing 1 2 0 15000).Takes head 15 ∧ node.Takes head 0
      ∧ (sending .report .sending false []).Takes head 15 := by decide

theorem witness_SetModeWithoutEffect :
    node.Takes head (1 + 0) ∧ node.control.mode = .report ∧ listening.Takes head (1 + 0)
      ∧ listening.control.mode = .listen ∧ (testing 1 2 0 15000).Takes head (1 + 0)
      ∧ (testing 1 2 0 15000).control.mode = .test ∧ (testing 1 2 0 15000).control.mode.hasAuthority = true
      ∧ (nodeIn (.trim .fadeOut) 5 40).Takes head (1 + 0) ∧ (nodeIn (.trim .full) 8 40).Takes head (1 + 0)
      ∧ 3 < (4 : Byte).toNat := by decide

theorem witness_SetModeWithoutEffect_bars :
    let unready := { node with drive := { node.drive with ready := false } }
    let ungrouped := { node with startUnit := { node.startUnit with image := some { image with group := 0 } } }
    let tripped := { node with fault := { node.fault with status := 0x0004 } }
    unready.Takes head 1 ∧ unready.tracker.state = .locked ∧ unready.drive.ready = false ∧ ungrouped.Takes head 1
      ∧ ungrouped.image.group = 0 ∧ tripped.Takes head 1 ∧ tripped.image.group ≠ 0
      ∧ tripped.fault.status &&& tripped.fault.classMap ≠ 0 := by decide

theorem witness_SetModeChangesMode :
    node.Takes head (1 + 0) ∧ node.control.mode = .report ∧ node.tracker.state = .locked ∧ node.drive.ready = true
      ∧ node.drive.staleRun = 0 ∧ node.image.group ≠ 0 ∧ node.fault.status &&& node.fault.classMap = 0
      ∧ listening.Takes head (1 + 0) ∧ listening.control.mode = .listen
      ∧ (nodeIn (.trim .fadeIn) 0 0).Takes head (1 + 0) ∧ (nodeIn (.trim .full) 8 40).Takes head (1 + 0)
      ∧ (nodeIn (.trim .fadeOut) 8 40).Takes head (1 + 0) := by decide

theorem witness_AuthorityNeedsItsConditions :
    exec (.setMode head [3]) node = .next (after (.setMode head [3]) node)
      ∧ (after (.setMode head [3]) node).control.mode.isTrim = true ∧ node.control.mode.isTrim = false
      ∧ (after (.startTest head []) { node with excitation := Excitation.atReset (some pattern) }).control.mode = .test
      ∧ node.control.mode ≠ .test := ⟨rfl, by decide⟩

theorem witness_LoadPatternLoads :
    node.Takes head 15 ∧ node.control.mode ≠ .test ∧ pattern.InRange ∧ (testing 0 0 0 15000).Takes head 15
      ∧ (testing 0 0 0 15000).control.mode = .test ∧ (List.replicate 8 (0x5F : Byte)).length = 8
      ∧ 32 < (33 : Byte).toNat ∧ (0x02 : Byte).toNat / 4 ^ (3 - 3 % 4) % 4 = 2
      ∧ (∀ i < 32, ((List.replicate 8 (0x5F : Byte)).getD (i / 4) 0).toNat / 4 ^ (3 - i % 4) % 4 ≠ 2) := by decide

theorem witness_StartTestStartsOrRefuses :
    let s := { watching .plus (.pending 8 .up 4) 0 0 with excitation := Excitation.atReset (some pattern) }
    s.Takes head 0 ∧ s.control.mode = .report ∧ s.tracker.state = .locked ∧ s.drive.staleRun = 0
      ∧ s.excitation.pattern.isSome = true ∧ s.fault.status &&& s.fault.classMap = 0
      ∧ (∀ k ∈ s.observation.peer?, k ∈ stations) := by decide

theorem witness_StartTestStartsOrRefuses_final :
    let s := { watching .plus (.counting 8 .up 1500 2 none true) 0 1 with
      excitation := Excitation.atReset (some pattern) }
    let t := s.setPeer 8 { s.peer 8 with contrary := 3 }
    s.Takes head 0 ∧ ¬s.Disagrees (s.peer 8).missedOnce.concluded ∧ t.Disagrees (t.peer 8).missedOnce.concluded
      ∧ t.fault.warns .couplingMismatch ∧ ({ t.fault with classMap := 0x200F } : FaultUnit).trips .couplingMismatch := by
  decide

theorem witness_StopTestAborts :
    (testing 1 2 0 15000).Takes head 0 ∧ (testing 1 2 0 15000).control.mode = .test ∧ node.Takes head 0
      ∧ node.control.mode ≠ .test ∧ node.Open ∧ node.LineOk ∧ { head with target := 0 }.target = 0 ∧ node.own ≠ 0 := by
  decide

theorem witness_ClearFaultsClears : node.Takes head (2 + 0) := by decide

theorem witness_TuneSetsOneValue :
    node.Takes head (3 + 0) ∧ node.control.mode.hasAuthority = false ∧ (testing 0 0 0 15000).Takes head (3 + 0)
      ∧ (testing 0 0 0 15000).control.mode.hasAuthority = true := by decide

theorem witness_TuneSetsMasks :
    node.FaultsOk ∧ node.Takes head (3 + 0) ∧ node.control.mode.hasAuthority = false ∧ 3 ≤ (3 : Byte).toNat
      ∧ (16 : Byte).toNat ≤ 16 ∧ (testing 0 0 0 15000).FaultsOk ∧ (testing 0 0 0 15000).Takes head (3 + 0)
      ∧ (testing 0 0 0 15000).control.mode.hasAuthority = true := by decide

theorem witness_ReadNodeData :
    node.Takes head (2 + 0) ∧ node.balance.result = none
      ∧ (after (.evaluation course) node).Takes head (2 + 0)
      ∧ (after (.evaluation course) node).balance.result.isSome = true
      ∧ (after (.evaluation course) node).draw.result.isSome = true := by decide

theorem witness_ReadPeerData :
    let s := node.setPeer 40 (qualified (report 22 100 3 15000 0 0 .report .zero))
    s.Takes head (2 + 0) ∧ 40 ≠ s.own ∧ (s.peer 40).state ≠ .absent
      ∧ (s.peer 40).stored = some (report 22 100 3 15000 0 0 .report .zero) ∧ (s.peer 1).state = .absent := by decide

theorem witness_ReadPeerData_next :
    let s := node.setPeer 40 (qualified (report 22 100 3 15000 0 0 .report .zero))
    s.Takes head (2 + 0) ∧ (39 : Byte).toNat < 40 ∧ (∀ j ∈ stations, j ≠ 40 → (s.peer j).state = .absent)
      ∧ (∀ j ∈ stations, (node.peer j).state = .absent) := by decide

theorem witness_ReadRecordedData : node.Takes head (2 + 0) ∧ (16 : Byte).toNat = 15 + 1 := by decide

theorem witness_SnapshotResetUnknown :
    node.Takes head 0 ∧ 10 ≤ (10 : Byte).toNat ∧ node.Open ∧ 60 ≤ head.terminal.toNat ∧ node.own ≠ 0 := by decide

theorem witness_DirectiveNotCarriedOut :
    let full := { node with handler := { node.handler with queue := List.replicate 4 (answer false) } }
    node.Open ∧ 60 ≤ head.terminal.toNat ∧ (8 : Byte).toNat ≠ node.own ∧ (0 : Byte).toNat ≠ node.own
      ∧ node.Takes head 0 ∧ node.Takes head 1 ∧ node.Takes head 14 ∧ full.Open ∧ head.target.toNat = full.own
      ∧ full.handler.queue.length = 4 ∧ full.fault.warns .answerOverflow := by decide

theorem witness_ReportAndFrameRoundTrip :
    (report 7 100 3 40000 (-30000) 2000 .test .minus).inRange = true ∧ contentionOk 0x89 = true
      ∧ lengthOk 0x89 16 = true ∧ (0 : Byte) ≠ 0x5A := by decide

/-- Class 3, stations 59, 0 and 41 of classes 0, 1 and 2, payloads just outside each class, a wrong length character. -/
theorem witness_ReportAndFrameRoundTrip_bad :
    0xC0 / 64 = 3 ∧ 0x3B / 64 = 0 ∧ 0x3B % 64 = 59 ∧ 0x40 / 64 = 1 ∧ 0x40 % 64 = 0 ∧ 0xA9 / 64 = 2 ∧ 0xA9 % 64 = 41
      ∧ (List.replicate 2 (0 : Byte)).length < 3 ∧ 18 < (List.replicate 19 (0 : Byte)).length
      ∧ 40 < (List.replicate 41 (0 : Byte)).length ∧ (List.replicate 17 (0 : Byte)).length ≠ 16
      ∧ (16 : Byte).toNat ≠ (List.replicate 17 (0 : Byte)).length := by decide

theorem witness_FloatCodeOfCount : 15 ≤ 15 ∧ 15 < 16 ∧ 491520 < 491521 ∧ 491520 ≤ 491520 := by decide

/-- A node in a TRIM fade with a peer's test under observation is sound, and its step answers. -/
theorem witness_StepKeeps :
    let s := { watching .plus (.pending 8 .up 4) 0 0 with pending := [.encoderEdge] }
    s.Sound ∧ step s = .next (after .encoderEdge { s with pending := [] }) := by
  refine ⟨⟨?_, ?_, ?_, ?_, ?_, ?_, ?_, ?_, ?_, ?_⟩, rfl⟩ <;> decide

end Sys2Proof.Tests
end

section
/-! SUPPORT. The directive commands as one, and what stands still while the section line does not work. -/

namespace Sys2Proof.Machine

/-! ### The directive commands -/

/-- The DIRECTIVE frame that a directive command spells: its head, its kind and its argument characters (R175, R192). -/
def directiveOf : Instr → Option (DirectiveHead × Byte × List Byte)
  | .setMode h args => some (h, 1, args)
  | .loadPattern h args => some (h, 2, args)
  | .startTest h args => some (h, 3, args)
  | .stopTest h args => some (h, 4, args)
  | .clearFaults h args => some (h, 5, args)
  | .tune h item value => some (h, 6, item :: value)
  | .tuneGatePin h value => some (h, 6, 10 :: value)
  | .tuneDetectMask h value => some (h, 6, 11 :: value)
  | .tuneSignalMask h value => some (h, 6, 12 :: value)
  | .readNode h index => some (h, 7, 1 :: index)
  | .readPeer h index => some (h, 7, 2 :: index)
  | .readPeerNext h index => some (h, 7, 3 :: index)
  | .readFaults h index => some (h, 7, 4 :: index)
  | .readCounts h index => some (h, 7, 5 :: index)
  | .readFirstTrip h index => some (h, 7, 6 :: index)
  | .readFirstWarn h index => some (h, 7, 7 :: index)
  | .readPattern h index => some (h, 7, 8 :: index)
  | .readVerdict h index => some (h, 7, 9 :: index)
  | .readTuning h index => some (h, 7, 10 :: index)
  | .readSnapshot h index => some (h, 7, 11 :: index)
  | .snapshot h args => some (h, 8, args)
  | .reset h args => some (h, 9, args)
  | .unknownKind h kind args => some (h, kind, args)
  | _ => none

/-- A directive command is the frame that it spells. -/
theorem exec_directiveOf {c : Instr} {d : DirectiveHead × Byte × List Byte} (hd : directiveOf c = some d) (s : State) :
    exec c s = .next (s.receiveDirective d.1 d.2.1 d.2.2) := by
  cases c <;> cases hd <;> rfl

/-- The commands besides the resets, the ends of START, the encoder's, the gate's, the drive's and the evaluation: all
of them are the section line's. -/
def needsLine : Instr → Bool
  | .hardwareReset => false
  | .resetPinAsserted => false
  | .startCheck _ => false
  | .softStartEnd => false
  | .encoderEdge => false
  | .gateEnd => false
  | .torqueFrame .. => false
  | .torqueGapCutOff => false
  | .torqueFramingError => false
  | .evaluation _ => false
  | _ => true

/-! ### The line off: START and HOLD (R29, R57, R91, R116, R156) -/

section LineOff

variable {s : State} (h : s.control.mode.lineOn = false)

include h

theorem State.receive_off (m : Nat) (c : Byte) (p : List Byte) : s.receive m c p = s := by
  simp [State.receive, State.canReceive, h]

theorem State.receiveBad_off : s.receiveBad = s := by
  simp [State.receiveBad, State.canReceive, h]

theorem State.receiveChars_off (m : Nat) (chars : List Byte) : s.receiveChars m chars = s := by
  unfold State.receiveChars
  split
  · exact State.receive_off h ..
  · exact State.receiveBad_off h

theorem State.isSending_off : s.isSending = false := by simp [State.isSending, h]

theorem State.attempting_off (src : Source) : s.attempting src = false := by
  unfold State.attempting
  split <;> simp [h]

theorem State.watchdogDue_off (due : WatchdogDue) : s.watchdogDue due = s := by simp [State.watchdogDue, h]

theorem State.beginAttempt_off : s.beginAttempt = s := by simp [State.beginAttempt, h]

theorem State.loseBit_off : s.loseBit = s := by simp [State.loseBit, State.isSending_off h]

theorem State.faultBit_off : s.faultBit = s := by simp [State.faultBit, State.isSending_off h]

theorem State.answerDone_off : s.answerDone = s := by simp [State.answerDone, State.attempting_off h]

theorem State.takeTableEvent_off (e : TableEvent) : s.takeTableEvent e = s := by
  cases e with
  | report m k p => exact State.receive_off h ..
  | badFrame => exact State.receiveBad_off h
  | faultyBitAbort => exact State.faultBit_off h
  | watchdogExpiry due => exact State.watchdogDue_off h due

theorem State.formReference_off : s.formReference = s := by simp [State.formReference, h]

/-- A work besides the close and the stale notice needs the line. -/
theorem State.work_off (began : Mode) {w : EvalWork} (hc : w ≠ .accumulatorClose) (hn : w ≠ .staleNotice) :
    s.work began w = s := by
  cases w with
  | accumulatorClose => exact absurd rfl hc
  | staleNotice => exact absurd rfl hn
  | fadeStep => cases hm : s.control.mode <;> simp_all [State.work, State.fadeStep, Mode.lineOn]
  | balanceEngine => simp [State.work, State.balanceWork, h]
  | drawVerifier => simp [State.work, State.drawWork, h]
  | excitationUnit => cases hm : s.control.mode <;> simp_all [State.work, State.excitationWork, Mode.lineOn]
  | couplingObserver => simp [State.work, State.observeEvaluation, h]

/-- With the line off, a late event of the section line changes nothing. -/
theorem State.takeLate_off {e : LateEvent} (he : needsLine (LateEvent.command e) = true) : s.takeLate e = s := by
  cases e <;> simp only [LateEvent.command, needsLine, Bool.false_eq_true] at he
  case goodFrame => exact State.receiveChars_off h ..
  case badFrame => exact State.receiveBad_off h
  case watchdogExpiry => exact State.watchdogDue_off h _
  case payloadBitLoss => exact State.loseBit_off h
  case faultyBitAbort => exact State.faultBit_off h
  case attempt => simp [State.takeLate, State.beginAttempt_off h]
  case answerSent => exact State.answerDone_off h

/-- With the line off, a command that needs the line changes nothing. -/
theorem exec_off {c : Instr} (hc : needsLine c = true) : exec c s = .next s := by
  cases hd : directiveOf c with
  | some d => rw [exec_directiveOf hd, State.receiveDirective, State.receive_off h]
  | none =>
    cases c <;> simp only [directiveOf, needsLine, reduceCtorEq, Bool.false_eq_true] at hd hc
    case reportArrival => exact congrArg _ (State.receive_off h ..)
    case goodFrame => exact congrArg _ (State.receiveChars_off h ..)
    case badFrame => exact congrArg _ (State.receiveBad_off h)
    case watchdogExpiry => exact congrArg _ (State.watchdogDue_off h _)
    case attempt => exact congrArg _ (State.beginAttempt_off h)
    case contentionLost => simp [exec, execContentionLost, State.isSending_off h]
    case payloadBitLoss => exact congrArg _ (State.loseBit_off h)
    case faultyBitAbort => exact congrArg _ (State.faultBit_off h)
    case reportSent => simp [exec, execReportSent, State.attempting_off h]
    case answerSent => exact congrArg _ (State.answerDone_off h)
    case lineIdle => simp [exec, execLineIdle, h]

end LineOff

/-! ### START (R1, R17, R96) -/

/-- In START a command that is no reset and no end of START changes nothing. -/
theorem exec_start {c : Instr} {s : State} (h : s.control.mode = .start) (h1 : c ≠ .hardwareReset)
    (h2 : c ≠ .resetPinAsserted) (h3 : ∀ record, c ≠ .startCheck record) (h4 : c ≠ .softStartEnd) :
    exec c s = .next s := by
  by_cases hn : needsLine c = true
  · exact exec_off (by simp [h, Mode.lineOn]) hn
  · cases c <;> simp only [needsLine, not_true_eq_false] at hn
    case hardwareReset => exact absurd rfl h1
    case resetPinAsserted => exact absurd rfl h2
    case startCheck record => exact absurd rfl (h3 record)
    case softStartEnd => exact absurd rfl h4
    case encoderEdge => simp [exec, execEncoderEdge, h]
    case gateEnd => simp [exec, execGateEnd, State.gateElapsed, h]
    case torqueFrame => simp [exec, execTorqueFrame, State.torqueArrives, h]
    case torqueGapCutOff => simp [exec, execTorqueGapCutOff, State.cutTorque, h]
    case torqueFramingError => simp [exec, execTorqueFramingError, State.cutTorque, h]
    case evaluation => simp [exec, execEvaluation, h]

/-- In START no late event has an effect. -/
theorem State.takeLate_start {s : State} (h : s.control.mode = .start) (e : LateEvent) : s.takeLate e = s := by
  by_cases hn : needsLine (LateEvent.command e) = true
  · exact State.takeLate_off (by simp [h, Mode.lineOn]) hn
  · cases e <;> simp only [LateEvent.command, needsLine, not_true_eq_false] at hn
    case gateEnd => simp [State.takeLate, State.gateElapsed, h]
    case torqueFrame => simp [State.takeLate, State.torqueArrives, h]
    case torqueGapCutOff => simp [State.takeLate, State.cutTorque, h]
    case torqueFramingError => simp [State.takeLate, State.cutTorque, h]

/-! ### HOLD -/

/-- What HOLD keeps: of the mode controller only the evaluations counter moves, and beside it the tracker, the torque
accumulator and the fault unit alone (R91, R97, R116, R156). -/
structure State.HeldFrom (t s : State) : Prop where
  hold : s.control.mode = .hold
  control : t.control = { s.control with evaluations := t.control.evaluations }
  line : t.line = s.line
  peers : t.peers = s.peers
  observation : t.observation = s.observation
  balance : t.balance = s.balance
  draw : t.draw = s.draw
  excitation : t.excitation = s.excitation
  handler : t.handler = s.handler
  startUnit : t.startUnit = s.startUnit
  lastWord : t.drive.lastWord = s.drive.lastWord
  sending : t.drive.sending = s.drive.sending
  frame : t.drive.frame = s.drive.frame

theorem State.HeldFrom.refl {s : State} (h : s.control.mode = .hold) : s.HeldFrom s :=
  ⟨h, rfl, rfl, rfl, rfl, rfl, rfl, rfl, rfl, rfl, rfl, rfl, rfl⟩

theorem State.HeldFrom.mode {s t : State} (h : t.HeldFrom s) : t.control.mode = .hold := by
  rw [h.control]; exact h.hold

theorem State.HeldFrom.lineOn {s t : State} (h : t.HeldFrom s) : t.control.mode.lineOn = false := by
  rw [h.mode]; rfl

theorem State.HeldFrom.trans {s t u : State} (h : u.HeldFrom t) (h' : t.HeldFrom s) : u.HeldFrom s where
  hold := h'.hold
  control := by rw [h.control, h'.control]
  line := h.line.trans h'.line
  peers := h.peers.trans h'.peers
  observation := h.observation.trans h'.observation
  balance := h.balance.trans h'.balance
  draw := h.draw.trans h'.draw
  excitation := h.excitation.trans h'.excitation
  handler := h.handler.trans h'.handler
  startUnit := h.startUnit.trans h'.startUnit
  lastWord := h.lastWord.trans h'.lastWord
  sending := h.sending.trans h'.sending
  frame := h.frame.trans h'.frame

/-- A trip drop finds nothing to drop in HOLD (R111). -/
theorem State.tripDrop_hold {s : State} (h : s.control.mode = .hold) (toHold : Bool) : s.tripDrop toHold = s := by
  simp [State.tripDrop, h]

theorem State.heldFrom_takeNotices {s : State} (h : s.control.mode = .hold) (ns : List Notice) :
    (s.takeNotices ns).HeldFrom s := by
  have hr : (s.recordNotices ns).control.mode = .hold := by simpa using h
  have ht : s.takeNotices ns = s.recordNotices ns := by
    unfold State.takeNotices
    dsimp only
    split
    · exact State.tripDrop_hold hr _
    · rfl
  rw [ht]
  refine ⟨h, ?_, ?_, ?_, ?_, ?_, ?_, ?_, ?_, ?_, ?_, ?_, ?_⟩ <;> simp

theorem State.heldFrom_discardTorque {s : State} (h : s.control.mode = .hold) : s.discardTorque.HeldFrom s :=
  ⟨h, rfl, rfl, rfl, rfl, rfl, rfl, rfl, rfl, rfl, rfl, rfl, rfl⟩

theorem State.heldFrom_openTorque {s : State} (h : s.control.mode = .hold) (chars : List Byte) :
    (s.openTorque chars).HeldFrom s :=
  ⟨h, rfl, rfl, rfl, rfl, rfl, rfl, rfl, rfl, rfl, rfl, rfl, rfl⟩

theorem State.heldFrom_accumulate {s : State} (h : s.control.mode = .hold) (w : Int) (r : Bool) :
    (s.accumulate w r).HeldFrom s :=
  ⟨h, rfl, rfl, rfl, rfl, rfl, rfl, rfl, rfl, rfl, rfl, rfl, rfl⟩

theorem State.heldFrom_judgeTorque {s : State} (h : s.control.mode = .hold) (a b c d e : Byte) :
    (s.judgeTorque a b c d e).HeldFrom s := by
  unfold State.judgeTorque State.offerTorque
  split
  · split
    · have ha := State.heldFrom_accumulate h (s16 b c) (d.getLsbD 0)
      exact (State.heldFrom_takeNotices ha.mode _).trans ha
    · exact State.heldFrom_discardTorque h
  · exact State.heldFrom_discardTorque h

theorem State.heldFrom_torqueCharacter {s : State} (h : s.control.mode = .hold) (c : Byte) :
    (s.torqueCharacter c).HeldFrom s := by
  unfold State.torqueCharacter
  split
  · split
    · exact State.heldFrom_openTorque h _
    · exact .refl h
  · have ho := State.heldFrom_openTorque h []
    exact (State.heldFrom_judgeTorque ho.mode ..).trans ho
  · exact State.heldFrom_openTorque h _

theorem State.heldFrom_torqueArrives {s : State} (h : s.control.mode = .hold) (chars : List Byte) :
    (s.torqueArrives chars).HeldFrom s := by
  simp only [State.torqueArrives, h, reduceCtorEq, if_false]
  induction chars generalizing s with
  | nil => exact .refl h
  | cons c chars ih =>
    have hc := State.heldFrom_torqueCharacter h c
    exact (ih hc.mode).trans hc

theorem State.heldFrom_cutTorque {s : State} (h : s.control.mode = .hold) : s.cutTorque.HeldFrom s := by
  unfold State.cutTorque
  split
  · exact .refl h
  · have ho := State.heldFrom_openTorque h []
    exact (State.heldFrom_discardTorque ho.mode).trans ho

/-- Lock is lost without a notice outside TRIM and TEST (R14). -/
theorem State.heldFrom_gateElapsed {s : State} (h : s.control.mode = .hold) : s.gateElapsed.HeldFrom s := by
  simp only [State.gateElapsed, State.gateEnd, h, Mode.hasAuthority, reduceCtorEq, Bool.false_eq_true, and_false,
    if_false]
  exact ⟨h, rfl, rfl, rfl, rfl, rfl, rfl, rfl, rfl, rfl, rfl, rfl, rfl⟩

theorem State.heldFrom_closeAccumulator {s : State} (h : s.control.mode = .hold) : s.closeAccumulator.HeldFrom s := by
  refine ⟨h, rfl, rfl, rfl, rfl, rfl, rfl, rfl, rfl, rfl, ?_, ?_, ?_⟩ <;>
    (unfold State.closeAccumulator; dsimp only; split <;> rfl)

theorem State.heldFrom_workSeeing {s : State} (h : s.control.mode = .hold) (seen : List (Nat × PeerEntry))
    (w : EvalWork) : (State.workSeeing .hold s seen w).HeldFrom s := by
  have hoff : ∀ t : State, t.control.mode = .hold → t.control.mode.lineOn = false := fun t ht => by rw [ht]; rfl
  unfold State.workSeeing
  split
  next hw =>
    have hc : w ≠ .accumulatorClose := by rintro rfl; simp at hw
    have hn : w ≠ .staleNotice := by rintro rfl; simp at hw
    have hidle := State.work_off (s := { s with peers := s.tableSeen seen }) (hoff _ h) .hold hc hn
    dsimp only
    rw [hidle]
    exact .refl h
  next =>
    by_cases hc : w = .accumulatorClose
    · subst hc; exact State.heldFrom_closeAccumulator h
    by_cases hn : w = .staleNotice
    · subst hn; simpa [State.work, State.staleNotice, Mode.hasAuthority] using State.HeldFrom.refl h
    rw [State.work_off (hoff _ h) _ hc hn]
    exact .refl h

theorem State.heldFrom_evaluated {s : State} (h : s.control.mode = .hold) (order : List EvalWork)
    (during : List Interruption) : (s.evaluated order during).HeldFrom s := by
  have hcount : s.countEvaluation.HeldFrom s := ⟨h, rfl, rfl, rfl, rfl, rfl, rfl, rfl, rfl, rfl, rfl, rfl, rfl⟩
  have hworks : (s.countEvaluation.runWorks order during).HeldFrom s := by
    refine State.runWorks_during_induct (P := (·.HeldFrom s)) order during hcount ?_ ?_
    · intro e t ht
      rwa [State.takeTableEvent_off ht.lineOn]
    · intro w seen t ht
      rw [hcount.mode]
      exact (State.heldFrom_workSeeing ht.mode seen w).trans ht
  simpa [State.evaluated, State.applyTrim, State.fillSlot, hworks.mode, Mode.isTrim, Mode.reports] using hworks

theorem State.heldFrom_takeLate {s : State} (h : s.control.mode = .hold) (e : LateEvent) :
    (s.takeLate e).HeldFrom s := by
  by_cases hn : needsLine (LateEvent.command e) = true
  · rw [State.takeLate_off (by simp [h, Mode.lineOn]) hn]
    exact .refl h
  · cases e <;> simp only [LateEvent.command, needsLine, not_true_eq_false] at hn
    case gateEnd => exact State.heldFrom_gateElapsed h
    case torqueFrame chars => exact State.heldFrom_torqueArrives h chars
    case torqueGapCutOff => exact State.heldFrom_cutTorque h
    case torqueFramingError => exact State.heldFrom_cutTorque h

/-- In HOLD every command but the resets keeps what HOLD keeps. -/
theorem exec_hold {c : Instr} {s : State} (h : s.control.mode = .hold) (h1 : c ≠ .hardwareReset)
    (h2 : c ≠ .resetPinAsserted) : ∃ t, exec c s = .next t ∧ t.HeldFrom s := by
  have hoff : s.control.mode.lineOn = false := by rw [h]; rfl
  by_cases hn : needsLine c = true
  · exact ⟨s, exec_off hoff hn, .refl h⟩
  · cases c <;> simp only [needsLine, not_true_eq_false] at hn
    case hardwareReset => exact absurd rfl h1
    case resetPinAsserted => exact absurd rfl h2
    case startCheck record => exact ⟨s, by simp [exec, execStartCheck, h], .refl h⟩
    case softStartEnd => exact ⟨s, by simp [exec, execSoftStartEnd, h], .refl h⟩
    case encoderEdge =>
      refine ⟨_, rfl, ?_⟩
      rw [if_neg (by simp [h])]
      exact ⟨h, rfl, rfl, rfl, rfl, rfl, rfl, rfl, rfl, rfl, rfl, rfl, rfl⟩
    case gateEnd => exact ⟨_, rfl, State.heldFrom_gateElapsed h⟩
    case torqueFrame => exact ⟨_, rfl, State.heldFrom_torqueArrives h _⟩
    case torqueGapCutOff => exact ⟨_, rfl, State.heldFrom_cutTorque h⟩
    case torqueFramingError => exact ⟨_, rfl, State.heldFrom_cutTorque h⟩
    case evaluation course =>
      have hlate : (course.late.foldl State.takeLate (s.evaluated course.order course.during)).HeldFrom s :=
        State.takeLate_induct (P := (·.HeldFrom s)) course.late (State.heldFrom_evaluated h _ _)
          fun e t ht => (State.heldFrom_takeLate ht.mode e).trans ht
      refine ⟨_, ?_, hlate⟩
      simp only [exec, execEvaluation, h, reduceCtorEq, if_false, State.formReference_off hlate.lineOn]

/-- Settles O8: in START by the commands one by one, in HOLD by what every operation keeps there. -/
theorem startAndHoldAreLeftByResets : Obligations.StartAndHoldAreLeftByResets := by
  refine ⟨fun c s => exec_start, fun c s h h1 h2 => ?_⟩
  obtain ⟨t, he, ht⟩ := exec_hold h h1 h2
  exact ⟨t, he, ht.control, ht.line, ht.peers, ht.observation, ht.balance, ht.draw, ht.excitation, ht.handler,
    ht.startUnit, ht.lastWord, ht.sending, ht.frame⟩

end Sys2Proof.Machine
end

section
/-! SUPPORT. The speed tracker: what a gate end leaves, said once for the three states and for the pin (R1 to R14). -/

namespace Sys2Proof.Machine

/-! ### The gate that has ended -/

theorem speedDistance_eq (v w : Nat) : speedDistance v w = ((v : Int) - w).natAbs := by
  unfold speedDistance
  omega

/-- The tracker as the rules of its state leave it at the end of its gate, under the pin that comes into force
(R5 to R11). -/
def Tracker.judged (g : GateSettings) (t : Tracker) : Tracker :=
  Tracker.judgeGate g { t with pin := t.requested } t.edges (gateSpeed g.edgeScale t.edges t.rung)

@[simp] theorem Tracker.judgeGate_pins (g : GateSettings) (t : Tracker) (n v : Nat) :
    (Tracker.judgeGate g t n v).pin = t.pin ∧ (Tracker.judgeGate g t n v).requested = t.requested := by
  unfold Tracker.judgeGate Tracker.acquireFull Tracker.countUnlocked Tracker.acquireThin Tracker.lockedFull
    Tracker.standstillGate Tracker.reacquire Tracker.standstill
  dsimp only
  (repeat' split) <;> exact ⟨rfl, rfl⟩

@[simp] theorem Tracker.judged_pins (g : GateSettings) (t : Tracker) :
    (t.judged g).pin = t.requested ∧ (t.judged g).requested = t.requested :=
  Tracker.judgeGate_pins g _ _ _

/-- The pin's part of a gate end is what `placed` says. -/
theorem Tracker.moveTo_eq_placed (g : GateSettings) (t j : Tracker) (h : j.pin = t.requested) :
    ({ j.moveTo t.rung (j.nextRung g (t.pin.isSome && t.requested.isNone)) with edges := 0 } : Tracker)
      = j.placed t g.floorRung g.topRung := by
  have hr : j.nextRung g (t.pin.isSome && t.requested.isNone) = (j.placed t g.floorRung g.topRung).rung := by
    cases hq : t.requested <;> simp [Tracker.nextRung, Tracker.placed, h, hq, clampNat]
  rw [hr, Tracker.moveTo]
  split
  next hm => unfold Tracker.placed at hm ⊢; simp only [if_pos hm, h]
  next hm => unfold Tracker.placed at hm ⊢; simp only [if_neg hm, h]

/-- A gate end: the state's rules, then the place that the pin gives the next gate. -/
theorem Tracker.gateEnd_eq_placed (g : GateSettings) (t : Tracker) :
    t.gateEnd g = (t.judged g).placed t g.floorRung g.topRung :=
  Tracker.moveTo_eq_placed g t _ (t.judged_pins g).1

/-- A gate end that sends no notice: the lock is kept, there was none, or the node is in neither TRIM nor TEST (R14). -/
theorem exec_gateEnd_quiet {s : State} (h : s.control.mode ≠ .start)
    (hq : s.tracker.state ≠ .locked ∨ (s.tracker.judged s.image.gate).state = .locked
      ∨ s.control.mode.hasAuthority = false) :
    exec .gateEnd s = .next
      { s with
        tracker := (s.tracker.judged s.image.gate).placed s.tracker s.image.floorRung s.image.topRung } := by
  have he : exec .gateEnd s = .next s.gateEnd := by simp [exec, execGateEnd, State.gateElapsed, h]
  rw [he, State.gateEnd, Tracker.gateEnd_eq_placed]
  dsimp only
  rw [if_neg]
  · rfl
  · rintro ⟨hv, hn, ha⟩
    rcases hq with hq | hq | hq
    · exact hq (by simpa [Tracker.valid] using hv)
    · exact hn (by simpa [Tracker.valid, Tracker.placed] using hq)
    · simp [hq] at ha

/-- Whether a gate end takes the lock or not, the tracker it leaves is the one placed. -/
theorem State.gateEnd_tracker (s : State) :
    s.gateEnd.tracker = (s.tracker.judged s.image.gate).placed s.tracker s.image.floorRung s.image.topRung := by
  unfold State.gateEnd
  dsimp only
  split <;> simp [Tracker.gateEnd_eq_placed, Image.gate]

/-! ### What each state's rules leave -/

/-- Where the next gate is placed does not read the pin that the rules stood under. -/
theorem Tracker.placed_of_eq {j k t : Tracker} {p : Option Nat} (h : j = { k with pin := p }) (floor top : Nat) :
    j.placed t floor top = k.placed t floor top := by
  subst h
  rfl

/-- ACQUIRE, 16 edges or more (R5). -/
theorem Tracker.judged_acquire_full (g : GateSettings) (t : Tracker) (ha : t.state = .acquire) (hn : 16 ≤ t.edges) :
    let v := gateSpeed g.edgeScale t.edges t.rung
    let u := { t with latest := some v, emptyRun := 0 }
    t.judged g =
      { (if ∃ w, t.comparison = some w ∧ ((v : Int) - w).natAbs ≤ lockBand g.lockBand v then
          { u with state := .locked, comparison := some v, unlocked := 0, excursions := 0 }
        else if t.unlocked = 3 then
          if t.requested = none ∧ t.rung < g.topRung then
            { u with rung := t.rung + 1, comparison := none, unlocked := 0 }
          else { u with comparison := some v, unlocked := 0 }
        else { u with comparison := some v, unlocked := t.unlocked + 1 } : Tracker) with pin := t.requested } := by
  have hfull : Config.thinGate ≤ t.edges := hn
  simp only [Tracker.judged, Tracker.judgeGate, ha, if_pos hfull, Tracker.acquireFull, Tracker.countUnlocked,
    speedDistance_eq, Nat.reduceEqDiff, and_comm (b := t.requested = none)]
  cases t.comparison <;> simp only [Option.some.injEq, exists_eq_left', reduceCtorEq, false_and, exists_false, if_false]
    <;> (repeat' split) <;> rfl

/-- ACQUIRE, fewer than 16 edges (R6, R7). -/
theorem Tracker.judged_acquire_thin (g : GateSettings) (t : Tracker) (ha : t.state = .acquire) (hn : t.edges < 16) :
    let u :=
      { t with latest := some (gateSpeed g.edgeScale t.edges t.rung), comparison := none, unlocked := 0 }
    let ceiling := t.requested.getD g.topRung
    t.judged g =
      { (if t.requested = none ∧ t.rung < g.topRung then { u with rung := t.rung + 1, emptyRun := 0 }
        else if t.rung = ceiling ∧ t.edges = 0 then
          if t.emptyRun = 3 then
            { u with state := .standstill, rung := ceiling, latest := none, emptyRun := 0, excursions := 0 }
          else { u with emptyRun := t.emptyRun + 1 }
        else { u with emptyRun := 0 } : Tracker) with pin := t.requested } := by
  have hthin : ¬ Config.thinGate ≤ t.edges := by simpa [Config.thinGate] using hn
  simp only [Tracker.judged, Tracker.judgeGate, ha, if_neg hthin, Tracker.acquireThin, Tracker.standstill,
    GateSettings.ceiling, Nat.reduceEqDiff, and_comm (b := t.requested = none)]
  (repeat' split) <;> rfl

/-- LOCKED (R8, R9). -/
theorem Tracker.judged_locked (g : GateSettings) (t : Tracker) {w : Nat} (hl : t.state = .locked)
    (hc : t.comparison = some w) :
    let v := gateSpeed g.edgeScale t.edges t.rung
    let u := { t with latest := some v }
    t.judged g =
      { (if t.edges < 16 then u.reacquire (min (t.rung + 1) g.topRung)
        else if ((v : Int) - w).natAbs ≤ 2 * lockBand g.lockBand v then
          { u with comparison := some v, excursions := 0 }
        else if t.excursions = 1 then u.reacquire g.floorRung
        else { u with comparison := some v, excursions := t.excursions + 1 } : Tracker) with pin := t.requested } := by
  simp only [Tracker.judged, Tracker.judgeGate, hl, hc, Tracker.lockedFull, Tracker.reacquire, speedDistance_eq,
    Nat.reduceEqDiff, Config.thinGate, ← not_lt, ite_not]
  (repeat' split) <;> rfl

/-- STANDSTILL (R10). -/
theorem Tracker.judged_standstill (g : GateSettings) (t : Tracker) (hs : t.state = .standstill) :
    let u := { t with pin := t.requested, rung := t.requested.getD g.topRung }
    t.judged g =
      if t.edges < 16 then u
      else { u with state := .acquire, latest := some (gateSpeed g.edgeScale t.edges t.rung) } := by
  simp only [Tracker.judged, Tracker.judgeGate, hs, Tracker.standstillGate, GateSettings.ceiling, Config.thinGate,
    ← not_lt, ite_not]

/-! ### The statements -/

/-- Settles O9: the saturating increment written out. -/
theorem edgeIsCounted : Obligations.EdgeIsCounted := by
  intro s h
  have he : satInc Config.edgeCountMax s.tracker.edges
      = if s.tracker.edges < 16777215 then s.tracker.edges + 1 else 16777215 := by
    simp only [satInc, Config.edgeCountMax]
    split <;> omega
  simp only [exec, execEncoderEdge, if_neg h, he]

/-- Settles O10: no notice in ACQUIRE, and the rules for 16 edges or more. -/
theorem acquireFullGate : Obligations.AcquireFullGate := by
  intro s h ha hn
  rw [exec_gateEnd_quiet h (.inl (by simp [ha])),
    Tracker.placed_of_eq (Tracker.judged_acquire_full s.image.gate s.tracker ha hn)]
  rfl

/-- Settles O11: no notice in ACQUIRE, and the rules for fewer than 16 edges. -/
theorem acquireThinGate : Obligations.AcquireThinGate := by
  intro s h ha hn
  rw [exec_gateEnd_quiet h (.inl (by simp [ha])),
    Tracker.placed_of_eq (Tracker.judged_acquire_thin s.image.gate s.tracker ha hn)]
  rfl

/-- Settles O12: the rules of LOCKED, with no notice where the lock is kept or no authority stands. -/
theorem lockedGate : Obligations.LockedGate := by
  intro s w h hl hc v b t lost judged hq
  have hj : s.tracker.judged s.image.gate = { judged with pin := s.tracker.requested } :=
    Tracker.judged_locked s.image.gate s.tracker hl hc
  have hs : (s.tracker.judged s.image.gate).state = judged.state := by rw [hj]
  rw [exec_gateEnd_quiet h (.inr (hs ▸ hq.symm)), Tracker.placed_of_eq hj]

/-- Settles O13: the rules of STANDSTILL; a pin released there already leaves the rung at t, within f..t. -/
theorem standstillGate : Obligations.StandstillGate := by
  intro s hset h hs hl hc hu he
  refine ⟨by simp [Tracker.speed, hs], ?_⟩
  have hrange : s.image.floorRung ≤ s.image.topRung := by
    obtain ⟨⟨-, -, -, -, -, -, -, -, ⟨hr, -⟩, -⟩, -⟩ := hset
    exact hr
  rw [exec_gateEnd_quiet h (.inl (by simp [hs])), Tracker.judged_standstill _ _ hs]
  simp only [gateSpeed, Config.speedMax, Config.gateLength, Image.gate]
  split <;> cases hq : s.tracker.requested <;> simp [Tracker.placed, hq, hs, hl, hc, hu, he, hrange]

/-- Settles O14: by the place that the pin gives the next gate, whatever notice the gate end sends. -/
theorem pinAtGateEnd : Obligations.PinAtGateEnd := by
  intro s h
  have he : exec .gateEnd s = .next s.gateEnd := by simp [exec, execGateEnd, State.gateElapsed, h]
  refine ⟨_, he, ?_⟩
  rw [State.gateEnd_tracker]
  refine ⟨rfl, (Tracker.judged_pins _ _).2, rfl, ?_, ?_⟩
  · intro p hp
    refine ⟨by simp [Tracker.placed, hp], ?_, ?_⟩
    · intro hne hs
      have hs' : (s.tracker.judged s.image.gate).state = .acquire := hs
      simp [Tracker.placed, hp, hne, hs']
    · intro hl hn hx
      have hfull : Config.thinGate ≤ s.tracker.edges := hn
      have hj : (s.tracker.judged s.image.gate).state = .locked
          ∧ (s.tracker.judged s.image.gate).comparison = (s.tracker.judged s.image.gate).latest := by
        simp only [Tracker.judged, Tracker.judgeGate, hl, if_pos hfull, Tracker.lockedFull, hx]
        (repeat' split) <;> simp_all
      simp [Tracker.placed, hj]
  · intro hr hp hft hs _
    have hs' : (s.tracker.judged s.image.gate).state ≠ .standstill := hs
    simp only [Tracker.placed, hr, hp, hs', ne_eq, not_false_eq_true, and_self, if_true]
    omega

/-! ### Loss of lock in TRIM and TEST -/

/-- A transmitter that stands as the queue and the slot give it is left there (R37). -/
theorem State.settleTx_eq_self {s : State}
    (h : s.line.attempt = none →
      s.line.tx = if s.control.mode.lineOn && s.somethingToSend then .deferring else .idle) : s.settleTx = s := by
  unfold State.settleTx
  split
  · rfl
  · rename_i ha
    rw [← h ha]

/-- Where the transmitter already stands as the queue and the slot give it, a change of mode to REPORT leaves the line
alone (R37). -/
theorem State.changeMode_report_settled {s : State}
    (ht : s.line.attempt = none → s.line.tx = if s.somethingToSend = true then .deferring else .idle) :
    s.changeMode .report = s.inMode .report :=
  State.settleTx_eq_self (s := s.inMode .report) ht

/-- The trip drop of a notice that is neither CONFIG nor ID_CLASH, in TRIM and TEST (R110, R142). -/
theorem State.tripDrop_authority {s : State} (ha : s.control.mode.hasAuthority = true)
    (ht : s.line.attempt = none → s.line.tx = if s.somethingToSend = true then .deferring else .idle) :
    s.tripDrop false =
      { s with
        control := { s.control with mode := .report, authority := 0, trim := 0 }
        balance := { s.balance with integrator := 0, saturationRun := 0, shareRun := 0, groupShort := false }
        drive := { s.drive with posted := false }
        excitation :=
          if s.control.mode = .test then
            { s.excitation with
              running := false, offset := 0, sentStep := 0, sentLevel := .zero
              verdict := some
                { outcome := .aborted, count := s.excitation.count, steps := s.excitation.stepIndex,
                  baseline := s.excitation.baseline } }
          else s.excitation } := by
  cases hm : s.control.mode <;> simp only [hm, Mode.hasAuthority, Bool.false_eq_true] at ha
  case trim =>
    simp only [State.tripDrop, hm]
    exact State.changeMode_report_settled (s := s.zeroAuthority) ht
  case test =>
    simp only [State.tripDrop, hm]
    exact State.changeMode_report_settled (s := s.zeroAuthority.endTest .aborted) ht

/-- The lines of a sound fault unit already follow its status (R169). -/
theorem State.FaultsOk.driveLines {s : State} (h : s.FaultsOk) : s.fault.driveLines = s.fault := by
  obtain ⟨-, -, -, -, -, -, htrip, hwarn⟩ := h
  simp only [FaultUnit.driveLines, FaultUnit.tripDue, FaultUnit.warnDue, ← htrip, ← hwarn]

/-- A gate end that loses the lock in TRIM or TEST sends SPEED_LOSS (R14). -/
theorem exec_gateEnd_loss {s : State} (ha : s.control.mode.hasAuthority = true) (hl : s.tracker.state = .locked)
    (hj : (s.tracker.judged s.image.gate).state ≠ .locked) :
    exec .gateEnd s = .next
      (State.takeNotice
        { s with
          tracker := (s.tracker.judged s.image.gate).placed s.tracker s.image.floorRung s.image.topRung }
        (notice .speedLoss 0)) := by
  have h : s.control.mode ≠ .start := by intro e; simp [e, Mode.hasAuthority] at ha
  have he : exec .gateEnd s = .next s.gateEnd := by simp [exec, execGateEnd, State.gateElapsed, h]
  rw [he, State.gateEnd, Tracker.gateEnd_eq_placed]
  dsimp only
  rw [if_pos]
  · rfl
  · exact ⟨by simp [Tracker.valid, hl], by simpa [Tracker.valid, Tracker.placed] using hj, ha⟩

/-- Settles O15: the lock is lost on both ways, and SPEED_LOSS is taken by its class. -/
theorem speedLossDropsTrim : Obligations.SpeedLossDropsTrim := by
  intro s w hline ha hl hc v b hloss lost t
  have hj : s.tracker.judged s.image.gate = { lost with pin := s.tracker.requested } := by
    refine (Tracker.judged_locked s.image.gate s.tracker hl hc).trans ?_
    simp only [lost, Tracker.reacquire]
    rcases hloss with hthin | ⟨hfar, hx⟩
    · rw [if_pos hthin, if_pos hthin]; rfl
    · have hfar : ¬ ((gateSpeed s.image.gate.edgeScale s.tracker.edges s.tracker.rung : Int) - w).natAbs
          ≤ 2 * lockBand s.image.gate.lockBand
            (gateSpeed s.image.gate.edgeScale s.tracker.edges s.tracker.rung) := not_le.mpr hfar
      rw [if_neg hfar, if_pos hx]
      split <;> rfl
  have he : exec .gateEnd s = .next (t.takeNotice (notice .speedLoss 0)) := by
    rw [exec_gateEnd_loss ha hl (by rw [hj]; simp [lost]), Tracker.placed_of_eq hj]
  have hon : s.control.mode.lineOn = true := by
    cases hm : s.control.mode <;> simp_all [Mode.hasAuthority, Mode.lineOn]
  obtain ⟨-, htx, -⟩ := hline
  refine ⟨fun hw => ?_, fun hf hmask => ?_, fun htr => ?_⟩
  · rw [he, State.takeNotice_warn t (notice .speedLoss 0) hw]; rfl
  · rw [he, State.takeNotice_masked t (notice .speedLoss 0) hmask]
    exact congrArg (fun f => Host.Outcome.next { t with fault := f }) hf.driveLines
  · let u : State := { t with fault := t.fault.tripped (t.tripContents (notice .speedLoss 0)) }
    have hsettled : s.line.attempt = none → s.line.tx = if s.somethingToSend = true then .deferring else .idle :=
      fun hn => by simpa [hon] using htx hn
    rw [he, State.takeNotice_trip t (notice .speedLoss 0) htr]
    exact congrArg Host.Outcome.next (State.tripDrop_authority (s := u) ha hsettled)

end Sys2Proof.Machine
end

section
/-! SUPPORT. The resets and the two ends of START (R96, R186 to R189). -/

namespace Sys2Proof.Machine

/-- A table of equal entries, written entry by entry. -/
theorem replicate_eq_ofFn {α : Type} {n : Nat} (a : α) : Vector.replicate n a = Vector.ofFn fun _ => a := by
  ext i hi
  simp

/-- Settles O3: the reset values written out. -/
theorem hardwareResetState : Obligations.HardwareResetState := by
  intro s
  simp only [exec, execHardwareReset, execResetPinAsserted, State.hardReset, State.reset, FaultUnit.atReset,
    replicate_eq_ofFn]
  exact ⟨rfl, rfl⟩

/-- Settles O4: ANSWER_SENT finds a RESET's answer at the head, so it is the soft reset. -/
theorem softResetState : Obligations.SoftResetState := by
  intro s i f a rest hon himg hatt hq hres
  have hsend : s.attempting .answer = true := by simp [State.attempting, hatt, hon]
  have hdone : s.answerDone = s.softReset := by simp [State.answerDone, hsend, hq, hres]
  have hi : s.image = i := by simp [State.image, himg]
  simp only [exec, execAnswerSent, hdone, State.softReset, hi, himg, FaultUnit.atReset, replicate_eq_ofFn]
  rfl

/-- Settles O57: each block's laws, evaluated on the one reset state. -/
theorem resetIsSound : Obligations.ResetIsSound := by
  refine ⟨?_, ?_, ?_, ?_, ?_, ?_, ?_, ?_, ?_, ?_⟩ <;> decide

/-- The end of START over blocks that stand at their reset values (R16, R31, R96, R186). -/
theorem State.enterListen_atReset {s : State} (hline : s.line = Line.atReset) (hbal : s.balance = Balance.atReset)
    (hposted : s.drive.posted = false) (hq : s.handler.queue = []) :
    s.enterListen =
      { s with
        control := { s.control with mode := .listen }
        startUnit := { s.startUnit with phase := .over, port := .idle }
        line := { s.line with rx := .waitIdle }
        tracker := Tracker.atReset s.image.floorRung } := by
  have hmode : s.changeMode .listen = { s with control := { s.control with mode := .listen } } := by
    have hdrive : ({ s.drive with posted := false } : DriveLink) = s.drive := by rw [← hposted]
    unfold State.changeMode
    rw [hdrive, State.settleTx_eq_self]
    · simp [hline, hbal, Balance.atReset, Line.atReset, Line.onMode]
    · intro _
      simp [hline, hq, Line.atReset, Line.onMode, State.somethingToSend]
  simp only [State.enterListen, hmode]
  rfl

/-- Settles O5: both ends of START are `enterListen` over blocks at their reset values. -/
theorem startEndsInListen : Obligations.StartEndsInListen := by
  intro s hstart hm released listening
  obtain ⟨-, -, -, -, hreset⟩ := hstart
  obtain ⟨hdrive, hline, -, hbal, -, -, -, -, -, hstatus, -, -, -, hq, -⟩ := hreset hm
  have hposted : s.drive.posted = false := by rw [hdrive]; rfl
  refine ⟨fun record hphase hgood => ?_, fun hphase => ?_⟩
  · have hload : s.fault.load (recordImage record)
        = { s.fault with
            classMap := (recordImage record).classMap, detectMask := (recordImage record).detectMask,
            signalMask := (recordImage record).signalMask, tripLine := false, warnLine := false } := by
      simp [FaultUnit.load, FaultUnit.driveLines, FaultUnit.tripDue, FaultUnit.warnDue, hstatus]
    simp only [exec, execStartCheck, hm, hphase, hgood, and_self, if_true, State.startGood, hload]
    rw [State.enterListen_atReset]
    · rfl
    · exact hline
    · exact hbal
    · exact hposted
    · exact hq
  · simp only [exec, execSoftStartEnd, hm, hphase, and_self, if_true]
    rw [State.enterListen_atReset hline hbal hposted hq]
    rfl

end Sys2Proof.Machine
end

section
/-! SUPPORT. TUNE and READ NODE: a directive taken, carried out and answered (R176, R179 to R182, R193). -/

namespace Sys2Proof.Machine

/-- A directive command that is taken is answered with its reply, from the node that the reply leaves (R175, R176). -/
theorem exec_taken {c : Instr} {s : State} {h : DirectiveHead} {kind : Byte} {args : List Byte} {r : Reply}
    (hd : directiveOf c = some (h, kind, args)) (ht : s.Takes h args.length)
    (hr : (s.tookDirective h).reply kind.toNat args = r) (hm : r.node.control.mode.lineOn = true) :
    exec c s = .next (r.node.answered h r.outcome r.data (decide (kind = 9))) := by
  rw [exec_directiveOf hd, State.receiveDirective_taken kind ht, hr, State.enqueue_answered _ _ _ _ _ hm]

theorem takes_of_eq {s : State} {h : DirectiveHead} {m n : Nat} (ht : s.Takes h m) (e : m = n) : s.Takes h n := e ▸ ht

/-! ### TUNE -/

theorem State.reply_tune (t : State) (item hi lo : Byte) (rest : List Byte) :
    t.reply 6 (item :: hi :: lo :: rest) = t.doTune item.toNat hi lo := by
  have hlen : ¬ (knownKind 6 = true ∧ (item :: hi :: lo :: rest).length < argsNeeded 6) := by
    simp [argsNeeded]
  rw [State.reply, if_neg hlen]
  rfl

/-- Where the line works and the drive is not the node's, the mode is LISTEN or REPORT. -/
theorem listen_or_report {m : Mode} (hon : m.lineOn = true) (ha : m.hasAuthority = false) :
    m = .listen ∨ m = .report := by
  cases m <;> simp_all [Mode.lineOn, Mode.hasAuthority]

theorem State.doTune_authority {t : State} (ha : t.control.mode.hasAuthority = true) (item : Nat) (hi lo : Byte) :
    t.doTune item hi lo = refuse .wrongMode t := by
  have hm : ¬ (t.control.mode = .listen ∨ t.control.mode = .report) := by
    rintro (e | e) <;> simp [e, Mode.hasAuthority] at ha
  unfold State.doTune
  rw [if_neg hm]

theorem State.doTune_unknown {t : State} (hm : t.control.mode = .listen ∨ t.control.mode = .report) {item : Nat}
    (hi lo : Byte) (hn : item = 0 ∨ 12 < item) : t.doTune item hi lo = refuse .badValue t := by
  unfold State.doTune
  rw [if_pos hm]
  rcases hn with rfl | hn
  · rfl
  · obtain ⟨n, rfl⟩ : ∃ n, item = n + 13 := ⟨item - 13, by omega⟩
    rfl

theorem State.doTune_pin {t : State} (hm : t.control.mode = .listen ∨ t.control.mode = .report) (hi lo : Byte) :
    t.doTune 10 hi lo = t.tunePin (s16 hi lo) := by
  unfold State.doTune
  rw [if_pos hm]
  rfl

/-- A numeric item has its value clamped to its range (R179). -/
theorem State.doTune_numeric {t : State} (hm : t.control.mode = .listen ∨ t.control.mode = .report) {item : Nat}
    {least most : Int} (hr : tuneRange item = some (least, most)) (hi lo : Byte) :
    t.doTune item hi lo =
      clampedOrDone (decide (clampInt least most (s16 hi lo) ≠ s16 hi lo))
        { t with handler :=
          { t.handler with tuning := t.handler.tuning.set item (clampInt least most (s16 hi lo)) } } := by
  unfold State.doTune
  rw [if_pos hm]
  unfold tuneRange at hr
  split at hr <;> cases hr <;> rfl

theorem clampInt_ne_iff {lo hi z : Int} (h : lo ≤ hi) : clampInt lo hi z ≠ z ↔ ¬ (lo ≤ z ∧ z ≤ hi) := by
  unfold clampInt
  omega

/-- TUNE of a numeric item in LISTEN and REPORT (R179). -/
theorem exec_tune_numeric {s : State} {h : DirectiveHead} {item hi lo : Byte} {rest : List Byte} {least most : Int}
    (ht : s.Takes h (3 + rest.length)) (ha : s.control.mode.hasAuthority = false)
    (hr : tuneRange item.toNat = some (least, most)) (hle : least ≤ most) :
    exec (.tune h item (hi :: lo :: rest)) s = .next
      (State.answered
        { s.tookDirective h with
          handler :=
            { (s.tookDirective h).handler with
              tuning := s.handler.tuning.set item.toNat (max least (min most (hi ++ lo).toInt)) } }
        h (if least ≤ (hi ++ lo).toInt ∧ (hi ++ lo).toInt ≤ most then .done else .clamped) [] false) := by
  have hon : s.control.mode.lineOn = true := ht.1.1
  have hlen : s.Takes h (item :: hi :: lo :: rest).length := takes_of_eq ht (Nat.add_comm 3 rest.length)
  rw [exec_taken (c := .tune h item (hi :: lo :: rest)) rfl hlen
    ((State.reply_tune _ item hi lo rest).trans
      (State.doTune_numeric (t := s.tookDirective h) (listen_or_report hon ha) hr hi lo)) hon]
  simp only [clampedOrDone, s16_eq, clampInt_ne_iff hle, decide_not, Bool.not_eq_true', decide_eq_false_iff_not,
    ite_not]
  rfl

/-- Settles O47: the reply to TUNE by mode and item, answered once. -/
theorem tuneSetsOneValue : Obligations.TuneSetsOneValue := by
  constructor
  · intro s h item hi lo rest ht v t refused sets old
    have hon : s.control.mode.lineOn = true := ht.1.1
    have hlen : s.Takes h (item :: hi :: lo :: rest).length := takes_of_eq ht (Nat.add_comm 3 rest.length)
    have hrefused : ∀ o, t.doTune item.toNat hi lo = refuse o t → refused o := fun o ho =>
      exec_taken (c := .tune h item (hi :: lo :: rest)) rfl hlen
        ((State.reply_tune _ item hi lo rest).trans ho) hon
    refine ⟨fun ha => hrefused _ (State.doTune_authority (t := t) ha ..), fun ha => ⟨fun hn => ?_, ?_⟩⟩
    · exact hrefused _ (State.doTune_unknown (t := t) (listen_or_report hon ha) hi lo hn)
    · refine ⟨?_, ?_, ?_, ?_, ?_, ?_, ?_, ?_, ?_⟩ <;>
        (rintro rfl; exact exec_tune_numeric ht ha rfl (by decide))
  · intro s h hi lo rest ht v t
    have hon : s.control.mode.lineOn = true := ht.1.1
    have hlen : s.Takes h (10 :: hi :: lo :: rest).length := takes_of_eq ht (Nat.add_comm 3 rest.length)
    have hreply := State.reply_tune t 10 hi lo rest
    cases ha : s.control.mode.hasAuthority with
    | true =>
      rw [if_pos rfl]
      exact exec_taken (c := .tuneGatePin h (hi :: lo :: rest)) rfl hlen
        (hreply.trans (State.doTune_authority (t := t) ha ..)) hon
    | false =>
      have hpin : (if v = -1 then none else some (clampInt 0 7 v).toNat)
          = if v = -1 then none else if v < 0 then some 0 else some (min 7 v.toNat) := by
        unfold clampInt
        (repeat' split) <;> simp <;> omega
      have hrange : (v = -1 ∨ (0 ≤ v ∧ v ≤ 7)) ↔ (-1 ≤ v ∧ v ≤ 7) := by omega
      rw [if_neg (by simp), exec_taken (c := .tuneGatePin h (hi :: lo :: rest)) rfl hlen
        (hreply.trans (State.doTune_pin (t := t) (listen_or_report hon ha) hi lo)) hon]
      simp only [State.tunePin, clampedOrDone, s16_eq, ← hpin, ← hrange, decide_not, Bool.not_eq_true',
        decide_eq_false_iff_not, ite_not, v]
      rfl

/-! ### READ NODE -/

theorem State.reply_read (t : State) (item index : Byte) (rest : List Byte) :
    t.reply 7 (item :: index :: rest) = t.doRead item.toNat index.toNat := by
  have hlen : ¬ (knownKind 7 = true ∧ (item :: index :: rest).length < argsNeeded 7) := by
    simp [argsNeeded]
  rw [State.reply, if_neg hlen]
  rfl

/-- READ NODE with data to answer with (R181, R182). -/
theorem exec_readNode_done {s : State} {h : DirectiveHead} {index : Byte} {rest data : List Byte}
    (ht : s.Takes h (2 + rest.length)) (hdata : (s.tookDirective h).readItem 1 index.toNat = some data) :
    exec (.readNode h (index :: rest)) s = .next ((s.tookDirective h).answered h .done data false) :=
  exec_taken (c := .readNode h (index :: rest)) (r := { outcome := .done, data := data, node := s.tookDirective h })
    rfl (takes_of_eq ht (Nat.add_comm 2 rest.length))
    ((State.reply_read _ 1 index rest).trans
      (show State.doRead (s.tookDirective h) 1 index.toNat = _ by simp only [State.doRead, hdata]))
    ht.1.1

/-- READ NODE of an index that names no part (R181). -/
theorem exec_readNode_bad {s : State} {h : DirectiveHead} {index : Byte} {rest : List Byte}
    (ht : s.Takes h (2 + rest.length)) (hnone : (s.tookDirective h).readItem 1 index.toNat = none) :
    exec (.readNode h (index :: rest)) s = .next ((s.tookDirective h).answered h .badValue [] false) :=
  exec_taken (c := .readNode h (index :: rest)) (r := refuse .badValue (s.tookDirective h))
    rfl (takes_of_eq ht (Nat.add_comm 2 rest.length))
    ((State.reply_read _ 1 index rest).trans
      (show State.doRead (s.tookDirective h) 1 index.toNat = _ by simp only [State.doRead, hnone]))
    ht.1.1

/-- Settles O49: the node's part field by field, the two results by their outcomes, no other index. -/
theorem readNodeData : Obligations.ReadNodeData := by
  intro s h index rest ht reads flag phase mode tracker speed share upstream draw
  have hshare : ∀ r : ShareResult, r.data = share r := by
    intro r
    simp only [share, ShareResult.data]
    cases r.outcome with
    | unassessed reason => cases reason <;> rfl
    | assessed => rfl
  have hdraw : ∀ r : DrawResult, r.data = draw r := by
    intro r
    simp only [draw, upstream, DrawResult.data]
    cases r.outcome with
    | unassessed reason => cases reason <;> cases r.upstreamSpeed <;> rfl
    | assessed => cases r.upstreamSpeed <;> rfl
  refine ⟨?_, ?_, ?_, ?_, ?_, ?_⟩
  · rintro rfl
    refine exec_readNode_done ht (congrArg some ?_)
    have hmode : byte s.control.mode.code = mode ∧ optionalCode (s.control.mode.phase?.map Phase.code) = phase := by
      simp only [mode, phase]
      rcases s.control.mode with _ | _ | _ | _ | p | _
      case trim => cases p <;> exact ⟨rfl, rfl⟩
      all_goals exact ⟨rfl, rfl⟩
    have htracker : byte s.tracker.state.code = tracker ∧ s.tracker.speed = speed := by
      simp only [tracker, speed, Tracker.speed]
      cases s.tracker.state <;> exact ⟨rfl, rfl⟩
    simp only [State.nodeData, ← hmode, ← htracker]
    simp only [List.append_assoc, List.cons_append, List.nil_append]
    rfl
  · rintro rfl hr
    exact exec_readNode_done ht (by simp [State.readItem, hr, optional])
  · rintro r rfl hr
    exact exec_readNode_done ht (by simp [State.readItem, hr, optional, hshare])
  · rintro rfl hr
    exact exec_readNode_done ht (by simp [State.readItem, hr, optional])
  · rintro r rfl hr
    exact exec_readNode_done ht (by simp [State.readItem, hr, optional, hdraw])
  · intro hi
    refine exec_readNode_bad ht ?_
    obtain ⟨n, hn⟩ : ∃ n, index.toNat = n + 3 := ⟨index.toNat - 3, by omega⟩
    rw [hn]
    rfl

end Sys2Proof.Machine
end

section
/-! SUPPORT. The tracker's laws over a gate end (R2, R5 to R12). -/

namespace Sys2Proof.Machine

/-- The laws of the tracker's three states that do not speak of the rung: the estimates and the counts (R5 to R10). -/
structure Tracker.Lawful (t : Tracker) : Prop where
  latest : ∀ v ∈ t.latest, v ≤ Config.speedMax
  comparison : ∀ v ∈ t.comparison, t.latest = some v
  unlocked : t.unlocked ≤ 3
  emptyRun : t.emptyRun ≤ 3
  excursions : t.excursions ≤ 1
  locked : t.state = .locked → t.comparison.isSome = true ∧ t.unlocked = 0 ∧ t.emptyRun = 0
  acquire : t.state = .acquire → t.excursions = 0
  standstill : t.state = .standstill → t.latest = none ∧ t.unlocked = 0 ∧ t.emptyRun = 0 ∧ t.excursions = 0

theorem gateSpeed_le (scale n r : Nat) : gateSpeed scale n r ≤ Config.speedMax := Nat.min_le_left _ _

theorem Tracker.judged_lawful (g : GateSettings) {t : Tracker} (h : t.Lawful) : (t.judged g).Lawful := by
  have hv := gateSpeed_le g.edgeScale t.edges t.rung
  obtain ⟨hlatest, hcomp, hu, he, hx, hlock, hacq, hstill⟩ := h
  cases hs : t.state with
  | acquire =>
    have hx0 := hacq hs
    by_cases hn : 16 ≤ t.edges
    · rw [Tracker.judged_acquire_full g t hs hn]
      dsimp only
      (repeat' split) <;> constructor <;> simp <;> grind
    · rw [Tracker.judged_acquire_thin g t hs (by omega)]
      dsimp only
      (repeat' split) <;> constructor <;> simp <;> grind
  | locked =>
    obtain ⟨hsome, hu0, he0⟩ := hlock hs
    obtain ⟨w, hw⟩ := Option.isSome_iff_exists.mp hsome
    rw [Tracker.judged_locked g t hs hw]
    dsimp only [Tracker.reacquire]
    (repeat' split) <;> constructor <;> simp <;> grind
  | standstill =>
    obtain ⟨hl0, hu0, he0, hx0⟩ := hstill hs
    rw [Tracker.judged_standstill g t hs]
    dsimp only
    split <;> constructor <;> simp <;> grind

theorem Tracker.placed_lawful {j : Tracker} (h : j.Lawful) (t : Tracker) (floor top : Nat) :
    (j.placed t floor top).Lawful := by
  obtain ⟨hlatest, hcomp, hu, he, hx, hlock, hacq, hstill⟩ := h
  unfold Tracker.placed
  dsimp only
  constructor <;> grind

/-- The rung that the state's rules leave: the ceiling in STANDSTILL, and within f..t where no pin stands
(R2, R5 to R10). -/
theorem Tracker.judged_rung (g : GateSettings) (t : Tracker) (hft : g.floorRung ≤ g.topRung)
    (hlock : t.state = .locked → t.comparison.isSome = true) :
    ((t.judged g).state = .standstill → (t.judged g).rung = t.requested.getD g.topRung)
      ∧ (t.requested = none → g.floorRung ≤ t.rung ∧ t.rung ≤ g.topRung →
          g.floorRung ≤ (t.judged g).rung ∧ (t.judged g).rung ≤ g.topRung) := by
  cases ht : t.state with
  | acquire =>
    by_cases hn : 16 ≤ t.edges
    · rw [Tracker.judged_acquire_full g t ht hn]
      dsimp only
      (repeat' split) <;> grind
    · rw [Tracker.judged_acquire_thin g t ht (by omega)]
      dsimp only
      (repeat' split) <;> grind
  | locked =>
    obtain ⟨w, hw⟩ := Option.isSome_iff_exists.mp (hlock ht)
    rw [Tracker.judged_locked g t ht hw]
    dsimp only [Tracker.reacquire]
    (repeat' split) <;> grind
  | standstill =>
    rw [Tracker.judged_standstill g t ht]
    dsimp only
    split <;> grind

/-- The rung of the next gate: the pin's under a pin, within f..t without one, and the ceiling in STANDSTILL
(R2, R7, R10 to R12). -/
theorem Tracker.placed_rung (g : GateSettings) (t : Tracker) (hft : g.floorRung ≤ g.topRung)
    (hlock : t.state = .locked → t.comparison.isSome = true)
    (hrange : t.pin = none → g.floorRung ≤ t.rung ∧ t.rung ≤ g.topRung) :
    let p := (t.judged g).placed t g.floorRung g.topRung
    (∀ r ∈ t.requested, p.rung = r)
      ∧ (t.requested = none → g.floorRung ≤ p.rung ∧ p.rung ≤ g.topRung)
      ∧ (p.state = .standstill → p.rung = t.requested.getD g.topRung) := by
  obtain ⟨hstill, hkept⟩ := t.judged_rung g hft hlock
  unfold Tracker.placed
  dsimp only
  cases hr : t.requested with
  | some r => simp
  | none =>
    rw [hr] at hstill
    cases hp : t.pin with
    | none => simpa using ⟨hkept hr (hrange hp), hstill⟩
    | some q =>
      by_cases hs : (t.judged g).state = .standstill
      · simp [hs, hstill hs, hft]
      · simp [hs, hft]

/-- A gate end keeps the tracker's laws. -/
theorem State.TrackerOk.gateEnd {s : State} (hset : s.SettingsOk) (h : s.TrackerOk) :
    ({ s with tracker := s.tracker.gateEnd s.image.gate } : State).TrackerOk := by
  obtain ⟨⟨-, -, -, -, -, -, -, -, ⟨hft, htop⟩, -⟩, -⟩ := hset
  obtain ⟨-, -, hlatest, hcomp, ⟨hu, he, hx⟩, hreq, hlock, hacq, hstill, hpin, hfree⟩ := h
  have hlaws : s.tracker.Lawful :=
    ⟨hlatest, hcomp, hu, he, hx, hlock, hacq, fun e => by
      obtain ⟨h1, h2, h3, h4, -⟩ := hstill e
      exact ⟨h1, h2, h3, h4⟩⟩
  obtain ⟨hp, hnone, hceil⟩ :=
    Tracker.placed_rung s.image.gate s.tracker hft (fun e => (hlock e).1) hfree
  have hlaws' := Tracker.placed_lawful (Tracker.judged_lawful s.image.gate hlaws) s.tracker
    s.image.gate.floorRung s.image.gate.topRung
  have hreq' := (Tracker.judged_pins s.image.gate s.tracker).2
  rw [Tracker.gateEnd_eq_placed]
  generalize hq : (s.tracker.judged s.image.gate).placed s.tracker s.image.gate.floorRung s.image.gate.topRung = q at *
  have hqpin : q.pin = s.tracker.requested := by subst hq; rfl
  have hqreq : q.requested = s.tracker.requested := by subst hq; exact hreq'
  have hqedges : q.edges = 0 := by subst hq; rfl
  have hq7 : q.rung ≤ 7 := by
    cases hr : s.tracker.requested with
    | none => exact (hnone hr).2.trans htop
    | some r => rw [hp r hr]; exact hreq r hr
  obtain ⟨hlatest', hcomp', hu', he', hx', hlock', hacq', hstill'⟩ := hlaws'
  refine ⟨hq7, hqedges ▸ Nat.zero_le _, hlatest', hcomp', ⟨hu', he', hx'⟩, hqreq ▸ hreq, hlock', hacq', ?_, hqpin ▸ hp,
    hqpin ▸ hnone⟩
  intro e
  obtain ⟨h1, h2, h3, h4⟩ := hstill' e
  exact ⟨h1, h2, h3, h4, hqpin ▸ hceil e⟩

end Sys2Proof.Machine
end

section
/-! SUPPORT. What the operations besides the resets, the tracker's and the accumulator's leave of START, the tracker,
the tuning values and the torque accumulator: all of it (R16, R22, R94). -/

namespace Sys2Proof.Machine

/-- The node `t` comes of `s` with the start unit, the tracker, the tuning values and the torque accumulator as they
were; it enters neither START nor, from START or HOLD, a mode in which the line works; and a posted notice outlives no
change of mode or phase (R21, R94). -/
structure State.Follows (t s : State) : Prop where
  startUnit : t.startUnit = s.startUnit
  tracker : t.tracker = s.tracker
  tuning : t.handler.tuning = s.handler.tuning
  started : t.control.mode = .start → s.control.mode = .start
  lineOn : t.control.mode.lineOn = true → s.control.mode.lineOn = true
  torque : t.drive.opened = s.drive.opened ∧ t.drive.sum = s.drive.sum ∧ t.drive.count = s.drive.count
    ∧ t.drive.held = s.drive.held ∧ t.drive.staleRun = s.drive.staleRun ∧ t.drive.ready = s.drive.ready
    ∧ t.drive.discards = s.drive.discards
  posted : t.drive.posted = true → s.drive.posted = true ∧ t.control.mode = s.control.mode

theorem State.Follows.refl (s : State) : s.Follows s :=
  ⟨rfl, rfl, rfl, id, id, ⟨rfl, rfl, rfl, rfl, rfl, rfl, rfl⟩, fun h => ⟨h, rfl⟩⟩

theorem State.Follows.trans {s t u : State} (h : u.Follows t) (h' : t.Follows s) : u.Follows s where
  startUnit := h.startUnit.trans h'.startUnit
  tracker := h.tracker.trans h'.tracker
  tuning := h.tuning.trans h'.tuning
  started := fun hu => h'.started (h.started hu)
  lineOn := fun hu => h'.lineOn (h.lineOn hu)
  torque := by
    obtain ⟨h1, h2, h3, h4, h5, h6, h7⟩ := h.torque
    obtain ⟨k1, k2, k3, k4, k5, k6, k7⟩ := h'.torque
    exact ⟨h1.trans k1, h2.trans k2, h3.trans k3, h4.trans k4, h5.trans k5, h6.trans k6, h7.trans k7⟩
  posted := fun hu =>
    have ⟨ht, hm⟩ := h.posted hu
    have ⟨hs, hm'⟩ := h'.posted ht
    ⟨hs, hm.trans hm'⟩

/-- An operation that leaves the mode and the drive link alone. -/
theorem State.Follows.of_eq {s t : State} (h : t.startUnit = s.startUnit ∧ t.tracker = s.tracker
    ∧ t.handler.tuning = s.handler.tuning ∧ t.control.mode = s.control.mode ∧ t.drive = s.drive) : t.Follows s := by
  obtain ⟨hu, ht, hh, hm, hd⟩ := h
  refine ⟨hu, ht, hh, fun h => hm ▸ h, fun h => hm ▸ h, ?_, fun h => ⟨hd ▸ h, hm⟩⟩
  rw [hd]
  exact ⟨rfl, rfl, rfl, rfl, rfl, rfl, rfl⟩

/-- A condition that chooses between two operations. -/
theorem State.Follows.ite {s t u : State} {c : Prop} [Decidable c] (ht : c → t.Follows s) (hu : ¬ c → u.Follows s) :
    (if c then t else u).Follows s := by
  split
  · exact ht ‹_›
  · exact hu ‹_›

/-! ### Modes, phases and the trip drop -/

theorem State.follows_changeMode {s : State} {m : Mode} (hm : m ≠ .start)
    (hon : m.lineOn = true → s.control.mode.lineOn = true) : (s.changeMode m).Follows s := by
  constructor <;> simp [hm, State.changeMode]
  exact hon

theorem State.follows_changePhase {s : State} (p : Phase) (hon : s.control.mode.lineOn = true) :
    (s.changePhase p).Follows s := by
  constructor <;> simp [State.changePhase, hon]

theorem State.follows_zeroAuthority (s : State) : s.zeroAuthority.Follows s := .of_eq ⟨rfl, rfl, rfl, rfl, rfl⟩

theorem State.follows_endTest (s : State) (o : TestOutcome) : (s.endTest o).Follows s :=
  .of_eq ⟨rfl, rfl, rfl, rfl, rfl⟩

theorem State.follows_toHold (s : State) : s.toHold.Follows s :=
  (State.follows_changeMode (by simp) (by simp [Mode.lineOn])).trans (.of_eq ⟨rfl, rfl, rfl, rfl, rfl⟩)

theorem State.follows_tripDrop (s : State) (toHold : Bool) : (s.tripDrop toHold).Follows s := by
  have hdrop : ∀ t : State, t.Follows s → t.control.mode.lineOn = true →
      (t.changeMode (if toHold then .hold else .report)).Follows s := fun t ht hon =>
    (State.follows_changeMode (by cases toHold <;> simp) fun _ => hon).trans ht
  have hkeep : (if toHold then s.toHold else s).Follows s := .ite (fun _ => s.follows_toHold) fun _ => .refl s
  unfold State.tripDrop
  split
  next hm => exact hdrop _ s.follows_zeroAuthority (by simp [hm, Mode.lineOn])
  next hm =>
    exact hdrop _ ((State.follows_endTest _ _).trans s.follows_zeroAuthority) (by simp [hm, Mode.lineOn])
  next => exact hkeep
  next => exact hkeep
  next => exact hkeep
  next => exact .refl s

/-! ### Notices -/

theorem State.follows_recordNotices (s : State) (ns : List Notice) : (s.recordNotices ns).Follows s := .of_eq (by simp)

theorem State.follows_takeNotices (s : State) (ns : List Notice) : (s.takeNotices ns).Follows s := by
  have hr := s.follows_recordNotices ns
  exact .ite (fun _ => (State.follows_tripDrop _ _).trans hr) fun _ => hr

theorem State.follows_takeNotice (s : State) (n : Notice) : (s.takeNotice n).Follows s := s.follows_takeNotices [n]

/-! ### The coupling observer -/

theorem State.follows_setPeer (s : State) (k : Nat) (e : PeerEntry) : (s.setPeer k e).Follows s := .of_eq (by simp)

theorem State.follows_emptySlot (s : State) : s.emptySlot.Follows s := .of_eq (by simp)

theorem State.follows_countMissed (s : State) (k : Nat) : (s.countMissed k).Follows s := .of_eq (by simp)

theorem State.follows_judge (s : State) (k : Nat) (g : Sign) (b : Int) : (s.judge k g b).Follows s := .of_eq (by simp)

theorem State.follows_levelChange (s : State) (k : Nat) (a b : Level) : (s.levelChange k a b).Follows s :=
  .of_eq (by simp)

theorem State.follows_observeDemotion (s : State) (d : Demotion) : (s.observeDemotion d).Follows s := .of_eq (by simp)

theorem State.follows_slot (s : State) (o : Slot) : ({ s with observation := o } : State).Follows s :=
  .of_eq ⟨rfl, rfl, rfl, rfl, rfl⟩

theorem State.follows_giveVerdict (s : State) (k : Nat) : (s.giveVerdict k).Follows s := by
  have hp := s.follows_setPeer k { s.peer k with verdict := some (s.peer k).judged, marker := false }
  exact .ite (fun _ => (State.follows_takeNotice _ _).trans hp) fun _ => hp

theorem State.follows_testStart (s : State) (k : Nat) (l : Level) : (s.testStart k l).Follows s := by
  refine (State.follows_levelChange _ k _ _).trans ((State.follows_setPeer _ k _).trans ?_)
  exact .ite (fun _ => (State.follows_giveVerdict _ k).trans s.follows_emptySlot) fun _ => .refl s

theorem State.follows_testEnd (s : State) (k : Nat) : (s.testEnd k).Follows s := by
  unfold State.testEnd
  split
  · exact .ite (fun _ => s.follows_slot _) fun _ => s.follows_giveVerdict k
  · refine .ite (fun _ => ?_) fun _ => s.follows_giveVerdict k
    exact (State.follows_giveVerdict _ k).trans ((State.follows_emptySlot _).trans (s.follows_countMissed k))
  · exact s.follows_giveVerdict k

theorem State.follows_observeUpdate (s : State) (k : Nat) (previous : Option Contents) (now : Contents) :
    (s.observeUpdate k previous now).Follows s := by
  unfold State.observeUpdate
  split
  · exact .refl s
  · split
    · exact .ite (fun _ => s.follows_levelChange k _ _) fun _ => .refl s
    · exact .ite (fun _ => s.follows_testEnd k) fun _ => .refl s
    · exact s.follows_testStart k _
    · exact .refl s

theorem State.follows_observe (s : State) : s.observe.Follows s := by
  have hmissed : ∀ (t : State) (k : Nat), t.Follows s → (t.countMissed k).emptySlot.Follows s := fun t k ht =>
    (State.follows_emptySlot _).trans ((State.follows_countMissed t k).trans ht)
  have hverdict : ∀ (t : State) (k : Nat), t.Follows s → (t.emptySlot.giveVerdict k).Follows s := fun t k ht =>
    (State.follows_giveVerdict _ k).trans ((State.follows_emptySlot t).trans ht)
  unfold State.observe
  split
  · exact .refl s
  · exact .ite (fun _ => hmissed s _ (.refl s)) fun _ => s.follows_slot _
  · refine .ite (fun _ => hmissed s _ (.refl s)) fun _ => .ite (fun _ => ?_) fun _ => s.follows_slot _
    exact (State.follows_emptySlot _).trans (s.follows_judge _ _ _)
  · refine .ite (fun _ => hmissed _ _ (s.follows_judge _ _ _)) fun _ => ?_
    exact (State.follows_slot _ _).trans (s.follows_judge _ _ _)
  · exact hverdict _ _ (s.follows_judge _ _ _)
  · exact hverdict _ _ ((State.follows_countMissed _ _).trans (s.follows_judge _ _ _))

theorem State.follows_observeEvaluation (s : State) : s.observeEvaluation.Follows s :=
  .ite (fun _ => s.follows_observe) fun _ => .refl s

theorem State.follows_observeTestEntry (s : State) : s.observeTestEntry.Follows s := by
  unfold State.observeTestEntry
  split
  · exact .refl s
  · exact (State.follows_emptySlot _).trans (s.follows_countMissed _)
  · rename_i k _ _ _ succ final _
    have hm := s.follows_countMissed k
    have he : (if succ.isSome then (s.countMissed k).countMissed k else s.countMissed k).emptySlot.Follows s :=
      (State.follows_emptySlot _).trans (.ite (fun _ => (State.follows_countMissed _ k).trans hm) fun _ => hm)
    exact .ite (fun _ => (State.follows_giveVerdict _ k).trans he) fun _ => he

/-! ### The peer table and the line -/

theorem State.follows_afterBreak (s : State) (k : Nat) (q : Bool) : (s.afterBreak k q).Follows s :=
  (State.follows_observeDemotion _ _).trans (.ite (fun _ => s.follows_takeNotice _) fun _ => .refl s)

theorem State.follows_takeReport (s : State) (k : Nat) (r : Report) : (s.takeReport k r).Follows s := by
  have hp := s.follows_setPeer k ((s.peer k).take s.image.passThreshold s.clock r)
  exact (State.follows_observeUpdate _ k _ _).trans
    (.ite (fun _ => (State.follows_afterBreak _ k _).trans hp) fun _ => hp)

theorem State.follows_reportArrives (s : State) (k : Nat) (p : List Byte) : (s.reportArrives k p).Follows s := by
  unfold State.reportArrives
  split
  · exact s.follows_takeReport k _
  · exact .refl s

theorem State.follows_expire (s : State) (k : Nat) : (s.expire k).Follows s := by
  have hp := s.follows_setPeer k (s.peer k).lapse
  exact (State.follows_observeDemotion _ _).trans
    (.ite (fun _ => (State.follows_takeNotice _ _).trans hp) fun _ => hp)

theorem State.follows_watchdogDue (s : State) (due : WatchdogDue) : (s.watchdogDue due).Follows s := by
  unfold State.watchdogDue
  split
  · refine .ite (fun _ => ?_) fun _ => .refl s
    exact (State.follows_expire _ _).trans (.of_eq ⟨rfl, rfl, rfl, rfl, rfl⟩)
  · exact .refl s

theorem State.follows_loseStep (s : State) : s.loseStep.Follows s := .of_eq (by simp)

theorem State.follows_line (s : State) (l : Line) : ({ s with line := l } : State).Follows s :=
  .of_eq ⟨rfl, rfl, rfl, rfl, rfl⟩

theorem State.follows_judgeBad (s : State) : s.judgeBad.Follows s := by
  unfold State.judgeBad
  refine .ite (fun _ => ?_) fun _ => (State.follows_takeNotice _ _).trans (s.follows_line _)
  exact (State.follows_loseStep _).trans ((State.follows_takeNotices _ _).trans (s.follows_line _))

theorem State.follows_receiveBad (s : State) : s.receiveBad.Follows s :=
  .ite (fun _ => s.follows_judgeBad) fun _ => .refl s

theorem State.follows_endAttempt (s : State) (rx : RxState) : (s.endAttempt rx).Follows s := .of_eq (by simp)

theorem State.follows_loseBit (s : State) : s.loseBit.Follows s :=
  .ite (fun _ => (State.follows_takeNotice _ _).trans (s.follows_endAttempt _)) fun _ => .refl s

theorem State.follows_faultBit (s : State) : s.faultBit.Follows s :=
  .ite (fun _ => (State.follows_judgeBad _).trans (s.follows_endAttempt _)) fun _ => .refl s

theorem State.follows_beginAttempt (s : State) : s.beginAttempt.Follows s := by
  rcases s.beginAttempt_cases with h | ⟨a, -, -, -, -, h⟩ <;> rw [h]
  · exact .refl s
  · exact s.follows_line _

theorem State.follows_heard (s : State) (moment : Nat) : (s.heard moment).Follows s := .of_eq ⟨rfl, rfl, rfl, rfl, rfl⟩

/-! ### The works of an evaluation -/

theorem State.follows_staleNotice (s : State) (began : Mode) : (s.staleNotice began).Follows s :=
  .ite (fun _ => s.follows_takeNotice _) fun _ => .refl s

theorem State.follows_fadeStep (s : State) : s.fadeStep.Follows s := by
  unfold State.fadeStep
  split
  next hm =>
    have ha : ({ s with control := { s.control with authority := s.control.authority + 1 } } : State).Follows s :=
      .of_eq ⟨rfl, rfl, rfl, rfl, rfl⟩
    exact .ite (fun _ => (State.follows_changePhase _ (by simp [hm, Mode.lineOn])).trans ha) fun _ => ha
  next hm =>
    refine .ite (fun _ => ?_) fun _ => .of_eq ⟨rfl, rfl, rfl, rfl, rfl⟩
    exact (State.follows_changeMode (by simp) (by simp [hm, Mode.lineOn])).trans s.follows_zeroAuthority
  next => exact .refl s

theorem State.follows_balanceWork (s : State) : s.balanceWork.Follows s :=
  .ite (fun _ => (State.follows_takeNotices _ _).trans (.of_eq ⟨rfl, rfl, rfl, rfl, rfl⟩)) fun _ => .refl s

theorem State.follows_drawWork (s : State) : s.drawWork.Follows s := by
  have hd : ({ s with draw := s.verified } : State).Follows s := .of_eq ⟨rfl, rfl, rfl, rfl, rfl⟩
  exact .ite (fun _ => .ite (fun _ => (State.follows_takeNotice _ _).trans hd) fun _ => hd) fun _ => .refl s

theorem State.follows_excitation (s : State) (x : Excitation) : ({ s with excitation := x } : State).Follows s :=
  .of_eq ⟨rfl, rfl, rfl, rfl, rfl⟩

theorem State.follows_runStep {s : State} (p : Pattern) (hon : s.control.mode.lineOn = true) :
    (s.runStep p).Follows s := by
  have hx := s.follows_excitation ((s.checkResponse p).advance p)
  refine .ite (fun _ => ?_) fun _ => hx
  refine State.Follows.trans (State.follows_changeMode (by simp) ?_) ((State.follows_endTest _ _).trans hx)
  exact fun _ => hon

theorem State.follows_excitationWork (s : State) : s.excitationWork.Follows s := by
  unfold State.excitationWork
  split
  next p hm _ =>
    have hr := State.follows_runStep p (show s.control.mode.lineOn = true by rw [hm]; rfl)
    refine .ite (fun _ => ?_) fun _ => hr
    exact (State.follows_takeNotice _ _).trans ((State.follows_excitation _ _).trans hr)
  next => exact .refl s

/-- Every work but the close of the accumulator. -/
theorem State.follows_work (began : Mode) (s : State) {w : EvalWork} (hw : w ≠ .accumulatorClose) :
    (s.work began w).Follows s := by
  cases w with
  | accumulatorClose => exact absurd rfl hw
  | staleNotice => exact s.follows_staleNotice began
  | fadeStep => exact s.follows_fadeStep
  | balanceEngine => exact s.follows_balanceWork
  | drawVerifier => exact s.follows_drawWork
  | excitationUnit => exact s.follows_excitationWork
  | couplingObserver => exact s.follows_observeEvaluation

theorem State.follows_applyTrim (s : State) : s.applyTrim.Follows s := .of_eq (by simp)

theorem State.follows_fillSlot (s : State) : s.fillSlot.Follows s := .of_eq (by simp)

theorem State.follows_formReference (s : State) : s.formReference.Follows s := by
  constructor <;> simp

theorem State.follows_idle (s : State) : s.idle.Follows s := by
  constructor <;> simp

end Sys2Proof.Machine
end

section
/-! SUPPORT. The laws of settings, START, tracker and drive link over every operation (R2, R5 to R12, R18 to R22, R96,
R187, R188). -/

namespace Sys2Proof.Machine

/-- The laws of settings, START, tracker and drive link together. -/
structure State.Measured (s : State) : Prop where
  settings : s.SettingsOk
  start : s.StartOk
  tracker : s.TrackerOk
  drive : s.DriveOk

/-- These laws in a node that is out of START. -/
structure State.Working (s : State) : Prop extends s.Measured where
  working : s.control.mode ≠ .start

/-- Out of START the start unit is done and the start memory released, and START's laws say nothing more (R96, R186). -/
theorem State.startOk_iff {s : State} (hm : s.control.mode ≠ .start) :
    s.StartOk ↔ s.startUnit.phase = .over ∧ s.startUnit.port = .idle := by
  constructor
  · rintro ⟨hphase, hport, -⟩
    have ho : s.startUnit.phase = .over := by
      by_contra hn
      exact hm (hphase.mpr hn)
    exact ⟨ho, by simpa [ho, MemoryPort.idle] using hport⟩
  · rintro ⟨ho, hport⟩
    exact ⟨by simp [hm, ho], by simpa [ho, MemoryPort.idle] using hport, by simp [ho], by simp [ho],
      fun h => absurd h hm⟩

/-- What follows a node out of START keeps the laws. -/
theorem State.Working.follows {s t : State} (h : s.Working) (f : t.Follows s) : t.Working := by
  obtain ⟨⟨⟨himg, htune, hon⟩, hstart, htrack, hopened, hhead, hcount, hsum, hheld, hstale, hdisc, hposted⟩, hm⟩ := h
  have hmt : t.control.mode ≠ .start := fun e => hm (f.started e)
  have hi : t.image = s.image := by rw [State.image, f.startUnit]; rfl
  have hown : t.own = s.own := by rw [State.own, hi]; rfl
  obtain ⟨f1, f2, f3, f4, f5, f6, f7⟩ := f.torque
  refine ⟨⟨⟨hi ▸ himg, f.tuning ▸ htune, fun ht => ?_⟩, ?_, ?_, ?_⟩, hmt⟩
  · rw [f.startUnit, hown]
    exact hon (f.lineOn ht)
  · rw [State.startOk_iff hmt, f.startUnit]
    exact (State.startOk_iff hm).mp hstart
  · unfold State.TrackerOk
    rw [f.tracker, hi]
    exact htrack
  · refine ⟨f1 ▸ hopened, f1 ▸ hhead, f3 ▸ hcount, ?_, f4 ▸ hheld, f5 ▸ hstale, f7 ▸ hdisc, fun hp => ?_⟩
    · rw [f2, f3]; exact hsum
    · obtain ⟨hps, hmode⟩ := f.posted hp
      rw [hmode, f6]
      exact hposted hps

theorem State.Working.withTracker {s : State} (h : s.Working) {t : Tracker}
    (ht : ({ s with tracker := t } : State).TrackerOk) : ({ s with tracker := t } : State).Working :=
  ⟨⟨h.settings, (State.startOk_iff (s := { s with tracker := t }) h.working).mpr
    ((State.startOk_iff h.working).mp h.start), ht, h.drive⟩, h.working⟩

theorem State.Working.withDrive {s : State} (h : s.Working) {d : DriveLink}
    (hd : ({ s with drive := d } : State).DriveOk) : ({ s with drive := d } : State).Working :=
  ⟨⟨h.settings, (State.startOk_iff (s := { s with drive := d }) h.working).mpr
    ((State.startOk_iff h.working).mp h.start), h.tracker, hd⟩, h.working⟩

theorem State.Working.withTuning {s : State} (h : s.Working) {t : Tuning} (ht : t.InRange) :
    ({ s with handler := { s.handler with tuning := t } } : State).Working :=
  ⟨⟨⟨h.settings.1, ht, h.settings.2.2⟩,
    (State.startOk_iff (s := { s with handler := { s.handler with tuning := t } }) h.working).mpr
      ((State.startOk_iff h.working).mp h.start), h.tracker, h.drive⟩, h.working⟩

/-! ### The tracker's events -/

theorem State.Working.gateEnd {s : State} (h : s.Working) : s.gateEnd.Working := by
  have ht := h.withTracker (h.tracker.gateEnd h.settings)
  unfold State.gateEnd
  dsimp only
  split
  · exact ht.follows (State.follows_takeNotice _ _)
  · exact ht

theorem State.Working.gateElapsed {s : State} (h : s.Working) : s.gateElapsed.Working := by
  rw [State.gateElapsed, if_neg h.working]
  exact h.gateEnd

theorem State.Working.encoderEdge {s : State} (h : s.Working) :
    ({ s with tracker := { s.tracker with edges := satInc Config.edgeCountMax s.tracker.edges } } : State).Working := by
  refine h.withTracker ?_
  obtain ⟨hrung, -, hrest⟩ := h.tracker
  exact ⟨hrung, satInc_le _ _, hrest⟩

/-! ### The drive link's events -/

theorem State.Working.discardTorque {s : State} (h : s.Working) : s.discardTorque.Working := by
  refine h.withDrive ?_
  obtain ⟨hopened, hhead, hcount, hsum, hheld, hstale, -, hposted⟩ := h.drive
  exact ⟨hopened, hhead, hcount, hsum, hheld, hstale, satInc_le _ _, hposted⟩

theorem State.Working.openTorque {s : State} (h : s.Working) {chars : List Byte} (hn : chars.length ≤ 4)
    (hd : ∀ c ∈ chars.head?, c = 0xD1) : (s.openTorque chars).Working := by
  refine h.withDrive ?_
  obtain ⟨-, -, hrest⟩ := h.drive
  exact ⟨hn, hd, hrest⟩

/-- A frame taken: the sum grows by at most a limit, and a posting stands only over a drive not ready (R19 to R21). -/
theorem State.Working.accumulate {s : State} (h : s.Working) (hc : s.drive.count < Config.accumulatorMax) (w : Int)
    (r : Bool) : (s.accumulate w r).Working := by
  refine h.withDrive ?_
  obtain ⟨hopened, hhead, -, hsum, hheld, hstale, hdisc, hposted⟩ := h.drive
  refine ⟨hopened, hhead, hc, ?_, hheld, hstale, hdisc, ?_⟩
  · have hw := clampInt_range (lo := -Config.torqueMax) (hi := Config.torqueMax) (by decide) w
    have hmax : Config.torqueMax = 30000 := rfl
    rw [hmax] at hw
    show (s.drive.sum + clampInt (-Config.torqueMax) Config.torqueMax w).natAbs ≤ 30000 * (s.drive.count + 1)
    rw [hmax]
    omega
  · cases r with
    | true => simp
    | false =>
      simp only [Bool.not_false, Bool.true_and, Bool.or_eq_true]
      rintro (hp | ha)
      · exact ⟨(hposted hp).1, trivial⟩
      · exact ⟨ha, trivial⟩

theorem State.Working.judgeTorque {s : State} (h : s.Working) (a b c d e : Byte) :
    (s.judgeTorque a b c d e).Working := by
  unfold State.judgeTorque State.offerTorque
  split
  · split
    · exact (h.accumulate ‹_› _ _).follows (State.follows_takeNotices _ _)
    · exact h.discardTorque
  · exact h.discardTorque

theorem State.Working.torqueCharacter {s : State} (h : s.Working) (c : Byte) : (s.torqueCharacter c).Working := by
  obtain ⟨hopened, hhead, -⟩ := h.drive
  unfold State.torqueCharacter
  split
  · split
    · rename_i hc
      exact h.openTorque (by simp) (by simpa [Config.torqueStart] using hc)
    · exact h
  · exact (h.openTorque (by simp) (by simp)).judgeTorque ..
  · rename_i hne hn4
    obtain ⟨a, rest, hr⟩ := List.exists_cons_of_ne_nil hne
    have hlen : s.drive.opened.length ≠ 4 := by
      intro hl
      obtain ⟨a, b, c, d, e⟩ := List.length_eq_four.mp hl
      exact hn4 a b c d e
    refine h.openTorque ?_ ?_
    · simp only [List.length_append, List.length_singleton]
      omega
    · rw [hr] at hhead ⊢
      simpa using hhead

theorem State.Working.torqueArrives {s : State} (h : s.Working) (chars : List Byte) :
    (s.torqueArrives chars).Working := by
  rw [State.torqueArrives, if_neg h.working]
  induction chars generalizing s with
  | nil => exact h
  | cons c chars ih => exact ih (h.torqueCharacter c)

theorem State.Working.cutTorque {s : State} (h : s.Working) : s.cutTorque.Working := by
  unfold State.cutTorque
  split
  · exact h
  · exact (h.openTorque (by simp) (by simp)).discardTorque

/-- The close: the torque mean of a sum within 30000 a frame is within 30000 (R22). -/
theorem State.Working.closeAccumulator {s : State} (h : s.Working) : s.closeAccumulator.Working := by
  refine h.withDrive ?_
  obtain ⟨hopened, hhead, hcount, hsum, hheld, -, hdisc, hposted⟩ := h.drive
  split
  next h0 => exact ⟨hopened, hhead, hcount, by simp, hheld, satInc_le _ _, hdisc, hposted⟩
  next h0 =>
    refine ⟨hopened, hhead, Nat.zero_le _, by simp, ?_, Nat.zero_le _, hdisc, hposted⟩
    show (truncDiv s.drive.sum s.drive.count).natAbs ≤ 30000
    rw [truncDiv, Int.natAbs_tdiv, Int.natAbs_natCast]
    exact Nat.div_le_of_le_mul (by rwa [Nat.mul_comm] at hsum)

/-! ### The works of an evaluation -/

theorem State.Working.workSeeing {s : State} (h : s.Working) (began : Mode) (seen : List (Nat × PeerEntry))
    (w : EvalWork) : (State.workSeeing began s seen w).Working := by
  have htable : ∀ (t : State) (v : Vector PeerEntry 40), ({ t with peers := v } : State).Follows t := fun t v =>
    .of_eq ⟨rfl, rfl, rfl, rfl, rfl⟩
  unfold State.workSeeing
  split
  next hw =>
    have hc : w ≠ .accumulatorClose := by rintro rfl; simp at hw
    exact h.follows ((htable _ _).trans ((State.follows_work began _ hc).trans (htable s _)))
  next =>
    by_cases hc : w = .accumulatorClose
    · subst hc
      exact h.closeAccumulator
    · exact h.follows (s.follows_work began hc)

/-! ### Directives -/

theorem State.follows_doSetMode {s : State} (hon : s.control.mode.lineOn = true) (target : Nat) :
    (s.doSetMode target).node.Follows s := by
  have hmode : ∀ {m : Mode}, m ≠ .start → (s.changeMode m).Follows s := fun hm =>
    State.follows_changeMode hm fun _ => hon
  unfold State.doSetMode
  split
  · unfold State.towardListen
    split
    · exact .refl s
    · exact hmode (by simp)
    · exact .refl s
  · unfold State.towardReport
    split
    · exact hmode (by simp)
    · exact .refl s
    · exact .refl s
    · exact .ite (fun _ => hmode (by simp)) fun _ => State.follows_changePhase _ hon
    · exact .refl s
  · unfold State.towardTrim
    split
    · split
      · exact .refl s
      · refine State.Follows.trans (State.follows_changeMode (by simp) ?_) (.of_eq ⟨rfl, rfl, rfl, rfl, rfl⟩)
        exact fun _ => hon
    · exact .ite (fun _ => State.follows_changePhase _ hon) fun _ => State.follows_changePhase _ hon
    · exact .refl s
    · exact .refl s
  · exact .refl s

theorem State.follows_doLoadPattern (s : State) (n : Nat) (levels : List Byte) (hold amplitude tolerance : Nat)
    (target : Byte) : (s.doLoadPattern n levels hold amplitude tolerance target).node.Follows s := by
  unfold State.doLoadPattern
  split
  · exact .refl s
  · split
    · exact .refl s
    · split
      · exact .refl s
      · exact s.follows_excitation _

/-- The last reference word is no part of the accumulator (R131). -/
theorem State.follows_doStartTest {s : State} (hon : s.control.mode.lineOn = true) : s.doStartTest.node.Follows s := by
  unfold State.doStartTest
  split
  · exact .refl s
  · refine (State.follows_observeTestEntry _).trans (State.Follows.trans (State.follows_changeMode (by simp) ?_) ?_)
    · exact fun _ => hon
    · exact ⟨rfl, rfl, rfl, id, id, ⟨rfl, rfl, rfl, rfl, rfl, rfl, rfl⟩, fun h => ⟨h, rfl⟩⟩

theorem State.follows_doStopTest {s : State} (hon : s.control.mode.lineOn = true) : s.doStopTest.node.Follows s := by
  unfold State.doStopTest
  split
  · refine State.Follows.trans (State.follows_changeMode (by simp) ?_) (s.follows_endTest .aborted)
    exact fun _ => hon
  · exact .refl s

theorem State.follows_fault (s : State) (f : FaultUnit) : ({ s with fault := f } : State).Follows s :=
  .of_eq ⟨rfl, rfl, rfl, rfl, rfl⟩

theorem State.follows_tuneMask (s : State) (set : FaultUnit → Kind → Bool → FaultUnit) (number value : Nat) :
    (s.tuneMask set number value).node.Follows s := by
  unfold State.tuneMask
  split
  · exact s.follows_fault _
  · exact s.follows_fault _
  · exact .refl s

theorem State.follows_doRead (s : State) (item index : Nat) : (s.doRead item index).node.Follows s := by
  unfold State.doRead
  split <;> exact .refl s

theorem State.follows_takeSnapshot (s : State) : s.takeSnapshot.Follows s := .of_eq ⟨rfl, rfl, rfl, rfl, rfl⟩

/-- A numeric item set within its range leaves the tuning values in theirs (R179). -/
theorem Tuning.InRange.set {t : Tuning} (h : t.InRange) {item : Nat} {least most : Int}
    (hr : tuneRange item = some (least, most)) (z : Int) : (t.set item (clampInt least most z)).InRange := by
  unfold tuneRange at hr
  split at hr <;> cases hr <;> simp only [Tuning.set, clampInt, Tuning.InRange] at h ⊢ <;> omega

theorem State.Working.tunePin {s : State} (h : s.Working) (value : Int) : (s.tunePin value).node.Working := by
  refine h.withTracker ?_
  obtain ⟨hrung, hedges, hlatest, hcomp, hcounts, -, hrest⟩ := h.tracker
  refine ⟨hrung, hedges, hlatest, hcomp, hcounts, ?_, hrest⟩
  have hv := clampInt_range (lo := 0) (hi := 7) (by decide) value
  split <;> simp
  omega

theorem State.Working.doTune {s : State} (h : s.Working) (item : Nat) (hi lo : Byte) :
    (s.doTune item hi lo).node.Working := by
  unfold State.doTune
  split
  · split
    · exact h.tunePin _
    · exact h.follows (s.follows_tuneMask _ _ _)
    · exact h.follows (s.follows_tuneMask _ _ _)
    · split
      · exact h
      · exact h.withTuning (Tuning.InRange.set h.settings.2.1 ‹_› _)
  · exact h

theorem State.Working.carryOut {s : State} (h : s.Working) (hon : s.control.mode.lineOn = true) (kind : Nat)
    (args : List Byte) : (s.carryOut kind args).node.Working := by
  unfold State.carryOut
  split
  · exact h.follows (State.follows_doSetMode hon _)
  · exact h.follows (s.follows_doLoadPattern ..)
  · exact h.follows (State.follows_doStartTest hon)
  · exact h.follows (State.follows_doStopTest hon)
  · exact h.follows (s.follows_fault _)
  · exact h.doTune ..
  · exact h.follows (s.follows_doRead ..)
  · exact h.follows s.follows_takeSnapshot
  · exact h
  · exact h

theorem State.Working.reply {s : State} (h : s.Working) (hon : s.control.mode.lineOn = true) (kind : Nat)
    (args : List Byte) : (s.reply kind args).node.Working := by
  unfold State.reply
  split
  · exact h
  · exact h.carryOut hon kind args

theorem State.follows_handler (s : State) {u : Handler} (hu : u.tuning = s.handler.tuning) :
    ({ s with handler := u } : State).Follows s :=
  .of_eq ⟨rfl, rfl, hu, rfl, rfl⟩

theorem State.follows_enqueue (s : State) (a : Answer) : (s.enqueue a).Follows s := .of_eq (by simp)

theorem State.Working.directive {s : State} (h : s.Working) (hon : s.control.mode.lineOn = true) (terminal : Byte)
    (payload : List Byte) : (s.directive terminal payload).Working := by
  have hcount : s.countDirective.Working := h.follows (s.follows_handler rfl)
  unfold State.directive
  split
  next target tag kind args =>
    split
    · split
      · exact (hcount.reply hon kind.toNat args).follows (State.follows_enqueue _ _)
      · exact h.follows ((State.follows_takeNotice _ _).trans (s.follows_handler rfl))
    · split
      · unfold State.takeBroadcast
        split
        · exact hcount.follows (State.follows_doStopTest hon)
        · split
          · exact hcount.follows (State.follows_takeSnapshot _)
          · exact h
      · exact h
  next => exact h

/-! ### Frames and the node's own attempts -/

theorem State.Working.route {s : State} (h : s.Working) (hon : s.control.mode.lineOn = true) (c : Byte)
    (payload : List Byte) : (s.route c payload).Working := by
  unfold State.route
  split
  · exact h.directive hon c payload
  · exact h.follows (.ite (fun _ => s.follows_takeNotice _) fun _ => .refl s)
  · exact h.follows (.ite (fun _ => s.follows_takeNotice _) fun _ => s.follows_reportArrives _ _)
  · exact h

theorem State.Working.receive {s : State} (h : s.Working) (moment : Nat) (c : Byte) (payload : List Byte) :
    (s.receive moment c payload).Working := by
  unfold State.receive
  split
  next hr =>
    have hon : s.control.mode.lineOn = true := by
      obtain ⟨hopen, -⟩ := hr
      simp only [State.canReceive, Bool.and_eq_true] at hopen
      exact hopen.1
    split
    · exact (h.follows (s.follows_heard moment)).route hon c payload
    · exact h.follows s.follows_judgeBad
  next => exact h

theorem State.Working.receiveChars {s : State} (h : s.Working) (moment : Nat) (chars : List Byte) :
    (s.receiveChars moment chars).Working := by
  unfold State.receiveChars
  split
  · exact h.receive ..
  · exact h.follows s.follows_receiveBad

theorem State.Working.takeTableEvent {s : State} (h : s.Working) (e : TableEvent) : (s.takeTableEvent e).Working := by
  cases e with
  | report m k p => exact h.receive ..
  | badFrame => exact h.follows s.follows_receiveBad
  | faultyBitAbort => exact h.follows s.follows_faultBit
  | watchdogExpiry due => exact h.follows (s.follows_watchdogDue due)

theorem State.Working.evaluated {s : State} (h : s.Working) (order : List EvalWork) (during : List Interruption) :
    (s.evaluated order during).Working := by
  have hcount : s.countEvaluation.Working := h.follows (.of_eq ⟨rfl, rfl, rfl, rfl, rfl⟩)
  have hworks : (s.countEvaluation.runWorks order during).Working :=
    State.runWorks_during_induct order during hcount (fun e t ht => ht.takeTableEvent e)
      fun w seen t ht => ht.workSeeing _ seen w
  exact hworks.follows ((State.follows_fillSlot _).trans (State.follows_applyTrim _))

/-! ### Resets and the ends of START -/

theorem Image.fallback_inRange : Image.fallback.InRange := by decide

/-- The image of a good record stands in its ranges, with a node's station (R161, R162, R187, R188, R191). -/
theorem recordImage_inRange {record : List Byte} (h : recordGood record = true) :
    (recordImage record).InRange ∧ 1 ≤ (recordImage record).station := by
  simp only [recordGood, Bool.and_eq_true, decide_eq_true_eq] at h
  obtain ⟨⟨-, hlow⟩, hhigh⟩ := h
  have hclass : ∀ m : KindSet, (m ||| Config.fixedKinds) &&& Config.fixedKinds = Config.fixedKinds := fun m => by
    ext i hi; simp; tauto
  have hmask : ∀ m : KindSet, (m &&& ~~~Config.fixedKinds) &&& Config.fixedKinds = 0 := fun m => by
    ext i hi; simp
  refine ⟨⟨hhigh, ?_, ?_, ?_, ?_, ?_, ?_, ?_, ?_, ?_, ?_, ?_, hclass _, hmask _, hmask _⟩, hlow⟩ <;>
    simp only [recordImage, recordField, recordFloor, recordTop, recordTuning, Tuning.InRange, clampNat, clampInt] <;>
    omega

/-- A tracker just reset at the floor rung (R16). -/
theorem State.trackerOk_atReset {s : State} (ht : s.tracker = Tracker.atReset s.image.floorRung)
    (hi : s.image.InRange) : s.TrackerOk := by
  obtain ⟨-, -, -, -, -, -, -, -, ⟨hft, htop⟩, -⟩ := hi
  unfold State.TrackerOk
  rw [ht]
  simp only [Tracker.atReset]
  refine ⟨hft.trans htop, Nat.zero_le _, ?_⟩
  simp [hft]

/-- A drive link just reset, but for the REFERENCE output (R28). -/
theorem State.driveOk_atReset {s : State}
    (hd : s.drive = { DriveLink.atReset with sending := s.drive.sending, frame := s.drive.frame }) : s.DriveOk := by
  unfold State.DriveOk
  rw [hd]
  simp [DriveLink.atReset, Config.runMax]

theorem State.hardReset_measured (s : State) {phase : StartPhase} (hp : phase = .reading ∨ phase = .pinHeld) :
    (s.hardReset phase).Measured := by
  refine ⟨⟨Image.fallback_inRange, ?_, by simp [State.hardReset, State.reset, ModeControl.atReset, Mode.lineOn]⟩, ?_,
    State.trackerOk_atReset rfl Image.fallback_inRange, State.driveOk_atReset rfl⟩
  · obtain ⟨-, -, -, -, -, -, -, -, -, -, -, ht, -⟩ := Image.fallback_inRange
    exact ht
  · rcases hp with rfl | rfl
    · exact resetIsSound.start
    · exact ⟨by simp [State.hardReset, State.reset, ModeControl.atReset, StartUnit.atReset], rfl,
        by simp [State.hardReset, StartUnit.atReset], fun _ => ⟨rfl, rfl, rfl, rfl⟩,
        fun _ => ⟨rfl, rfl, rfl, rfl, rfl, rfl, rfl, rfl, rfl, rfl, rfl, rfl, rfl, rfl, rfl⟩⟩

/-- The soft reset of a working node (R189). -/
theorem State.Working.softReset {s : State} (h : s.Working) (hon : s.control.mode.lineOn = true) :
    s.softReset.Measured := by
  obtain ⟨⟨⟨himg, -, hstation⟩, hstart, -, -⟩, hm⟩ := h
  obtain ⟨-, hport⟩ := (State.startOk_iff hm).mp hstart
  have htune : s.image.tuning.InRange := by
    obtain ⟨-, -, -, -, -, -, -, -, -, -, -, ht, -⟩ := himg
    exact ht
  refine ⟨⟨himg, htune, ?_⟩, ⟨?_, hport, fun _ => hstation hon, ?_, ?_⟩, State.trackerOk_atReset rfl himg,
    State.driveOk_atReset rfl⟩
  · simp [State.softReset, ModeControl.atReset, Mode.lineOn]
  · simp [State.softReset, ModeControl.atReset]
  · simp [State.softReset]
  · exact fun _ => ⟨rfl, rfl, rfl, rfl, rfl, rfl, rfl, rfl, rfl, rfl, rfl, rfl, rfl, rfl, rfl⟩

/-- START's end in LISTEN, with an image in force (R96). -/
theorem State.enterListen_working {s : State} (hi : s.image.InRange) (hsome : s.startUnit.image.isSome = true)
    (hown : 1 ≤ s.own) (htune : s.handler.tuning.InRange)
    (hdrive : s.drive = { DriveLink.atReset with sending := s.drive.sending, frame := s.drive.frame }) :
    s.enterListen.Working := by
  have hm : s.enterListen.control.mode = .listen := by simp [State.enterListen]
  have hunit : s.enterListen.startUnit = { s.startUnit with phase := .over, port := .idle } := by
    simp [State.enterListen]
  have himg : s.enterListen.image = s.image := by rw [State.image, hunit]; rfl
  have htrack : s.enterListen.tracker = Tracker.atReset s.image.floorRung := by simp [State.enterListen, State.image]
  have hlink : s.enterListen.drive = { s.drive with posted := false } := by simp [State.enterListen, State.changeMode]
  have hhandler : s.enterListen.handler = s.handler := by simp [State.enterListen]
  have hwork : s.enterListen.control.mode ≠ .start := by simp [hm]
  refine ⟨⟨⟨himg ▸ hi, hhandler ▸ htune, fun _ => ⟨by rw [hunit]; exact hsome, ?_⟩⟩,
    (State.startOk_iff hwork).mpr (by rw [hunit]; exact ⟨rfl, rfl⟩),
    State.trackerOk_atReset (himg ▸ htrack) (himg ▸ hi), State.driveOk_atReset ?_⟩, hwork⟩
  · rw [State.own, himg]
    exact hown
  · rw [hlink, hdrive]
    rfl

/-- A good record (R188). -/
theorem State.startGood_working {s : State} {record : List Byte} (h : recordGood record = true)
    (hdrive : s.drive = { DriveLink.atReset with sending := s.drive.sending, frame := s.drive.frame }) :
    (s.startGood record).Working := by
  obtain ⟨hi, hown⟩ := recordImage_inRange h
  have htune : (recordImage record).tuning.InRange := by
    obtain ⟨-, -, -, -, -, -, -, -, -, -, -, ht, -⟩ := hi
    exact ht
  unfold State.startGood
  refine State.enterListen_working ?_ rfl ?_ htune hdrive
  · exact hi
  · exact hown

/-- A record that fails leaves the default settings and takes the node to HOLD (R97, R187). -/
theorem State.Measured.startBad {s : State} (h : s.Measured) (hm : s.control.mode = .start) : s.startBad.Working := by
  obtain ⟨⟨-, htune, -⟩, ⟨-, -, -, -, hreset⟩, -, -⟩ := h
  obtain ⟨hdrive, -⟩ := hreset hm
  have htrips : (s.fault.load Image.fallback).trips (notice .config 0).kind :=
    (by decide : Config.defaultClassMap.getLsbD 0 = true ∧ Config.defaultDetectMask.getLsbD 0 = false)
  have hbad : s.startBad.control.mode = .hold ∧ s.startBad.startUnit = StartUnit.atReset .over
      ∧ s.startBad.tracker = Tracker.atReset Image.fallback.floorRung
      ∧ s.startBad.drive = { s.drive with posted := false } ∧ s.startBad.handler.tuning = s.handler.tuning := by
    unfold State.startBad
    rw [State.takeNotice_trip _ _ htrips, show (notice .config 0).kind.fixed = true from rfl]
    simp [State.tripDrop, hm, State.toHold, State.changeMode]
  obtain ⟨hmode, hunit, htrack, hlink, hhandler⟩ := hbad
  have himage : s.startBad.image = Image.fallback := by rw [State.image, hunit]; rfl
  have hwork : s.startBad.control.mode ≠ .start := by simp [hmode]
  refine ⟨⟨⟨himage ▸ Image.fallback_inRange, hhandler ▸ htune, by simp [hmode, Mode.lineOn]⟩,
    (State.startOk_iff hwork).mpr (by rw [hunit]; exact ⟨rfl, rfl⟩),
    State.trackerOk_atReset (himage ▸ htrack) (himage ▸ Image.fallback_inRange), State.driveOk_atReset ?_⟩, hwork⟩
  rw [hlink, hdrive]
  rfl

/-! ### Every command and every step -/

theorem State.Working.answerDone {s : State} (h : s.Working) : s.answerDone.Measured := by
  rcases s.answerDone_cases with he | ⟨hatt, a, rest, -, he⟩ | ⟨-, -, he⟩ <;> rw [he]
  · exact h.toMeasured
  · have hon : s.control.mode.lineOn = true := by
      by_contra hoff
      simp [State.attempting_off (Bool.eq_false_iff.mpr hoff)] at hatt
    split
    · exact h.softReset hon
    · exact ((h.follows (s.follows_handler (u := { s.handler with queue := rest }) rfl)).follows
        (State.follows_endAttempt _ _)).toMeasured
  · exact (h.follows (s.follows_endAttempt _)).toMeasured

/-- An event between an evaluation's work and its frame, a soft reset among them (R44, R108). -/
theorem State.Measured.takeLate {s : State} (h : s.Measured) (e : LateEvent) : (s.takeLate e).Measured := by
  by_cases hm : s.control.mode = .start
  · rwa [State.takeLate_start hm]
  · have hw : s.Working := ⟨h, hm⟩
    cases e with
    | gateEnd => exact hw.gateElapsed.toMeasured
    | torqueFrame chars => exact (hw.torqueArrives chars).toMeasured
    | torqueGapCutOff => exact hw.cutTorque.toMeasured
    | torqueFramingError => exact hw.cutTorque.toMeasured
    | goodFrame m chars => exact (hw.receiveChars m chars).toMeasured
    | badFrame => exact (hw.follows s.follows_receiveBad).toMeasured
    | watchdogExpiry due => exact (hw.follows (s.follows_watchdogDue due)).toMeasured
    | payloadBitLoss => exact (hw.follows s.follows_loseBit).toMeasured
    | faultyBitAbort => exact (hw.follows s.follows_faultBit).toMeasured
    | attempt => exact (hw.follows (.ite (fun _ => .refl s) fun _ => s.follows_beginAttempt)).toMeasured
    | answerSent => exact hw.answerDone

theorem State.Measured.formReference {s : State} (h : s.Measured) : s.formReference.Measured := by
  by_cases hm : s.control.mode = .start
  · rwa [State.formReference_off (by simp [hm, Mode.lineOn])]
  · have hw : s.Working := ⟨h, hm⟩
    exact (hw.follows s.follows_formReference).toMeasured

theorem State.Working.evaluation {s : State} (h : s.Working) (course : Schedule) :
    ∃ t, exec (.evaluation course) s = .next t ∧ t.Measured := by
  have hlate : (course.late.foldl State.takeLate (s.evaluated course.order course.during)).Measured :=
    State.takeLate_induct (P := State.Measured) course.late (h.evaluated _ _).toMeasured fun e t ht => ht.takeLate e
  refine ⟨_, ?_, hlate.formReference⟩
  simp only [exec, execEvaluation, if_neg h.working]

/-- Out of START, every command but the resets. -/
theorem State.Working.exec {s : State} (h : s.Working) {c : Instr} (h1 : c ≠ .hardwareReset)
    (h2 : c ≠ .resetPinAsserted) : ∃ t, exec c s = .next t ∧ t.Measured := by
  cases hd : directiveOf c with
  | some d => exact ⟨_, exec_directiveOf hd s, (h.receive ..).toMeasured⟩
  | none =>
    cases c <;> simp only [directiveOf, reduceCtorEq] at hd
    case hardwareReset => exact absurd rfl h1
    case resetPinAsserted => exact absurd rfl h2
    case startCheck record => exact ⟨s, by simp [Machine.exec, execStartCheck, h.working], h.toMeasured⟩
    case softStartEnd => exact ⟨s, by simp [Machine.exec, execSoftStartEnd, h.working], h.toMeasured⟩
    case encoderEdge =>
      exact ⟨_, by simp only [Machine.exec, execEncoderEdge, if_neg h.working], h.encoderEdge.toMeasured⟩
    case gateEnd => exact ⟨_, rfl, h.gateElapsed.toMeasured⟩
    case torqueFrame => exact ⟨_, rfl, (h.torqueArrives _).toMeasured⟩
    case torqueGapCutOff => exact ⟨_, rfl, h.cutTorque.toMeasured⟩
    case torqueFramingError => exact ⟨_, rfl, h.cutTorque.toMeasured⟩
    case evaluation course => exact h.evaluation course
    case reportArrival => exact ⟨_, rfl, (h.receive ..).toMeasured⟩
    case goodFrame => exact ⟨_, rfl, (h.receiveChars ..).toMeasured⟩
    case badFrame => exact ⟨_, rfl, (h.follows s.follows_receiveBad).toMeasured⟩
    case watchdogExpiry due => exact ⟨_, rfl, (h.follows (s.follows_watchdogDue due)).toMeasured⟩
    case attempt => exact ⟨_, rfl, (h.follows s.follows_beginAttempt).toMeasured⟩
    case contentionLost =>
      exact ⟨_, rfl, (h.follows (.ite (fun _ => s.follows_endAttempt _) fun _ => .refl s)).toMeasured⟩
    case payloadBitLoss => exact ⟨_, rfl, (h.follows s.follows_loseBit).toMeasured⟩
    case faultyBitAbort => exact ⟨_, rfl, (h.follows s.follows_faultBit).toMeasured⟩
    case reportSent =>
      refine ⟨_, rfl, (h.follows (.ite (fun _ => ?_) fun _ => .refl s)).toMeasured⟩
      exact (State.follows_endAttempt _ _).trans (s.follows_line _)
    case answerSent => exact ⟨_, rfl, h.answerDone⟩
    case lineIdle => exact ⟨_, rfl, (h.follows (.ite (fun _ => s.follows_line _) fun _ => .refl s)).toMeasured⟩

/-- In START, the two commands that end it (R187, R189). -/
theorem State.Measured.startCheck {s : State} (h : s.Measured) (hm : s.control.mode = .start) (record : List Byte) :
    ∃ t, exec (.startCheck record) s = .next t ∧ t.Measured := by
  obtain ⟨-, -, -, -, hreset⟩ := h.start
  obtain ⟨hdrive, -⟩ := hreset hm
  by_cases hp : s.startUnit.phase = .reading
  · by_cases hg : recordGood record = true
    · exact ⟨s.startGood record, by simp [Machine.exec, execStartCheck, hm, hp, hg],
        (State.startGood_working hg hdrive).toMeasured⟩
    · exact ⟨s.startBad, by simp [Machine.exec, execStartCheck, hm, hp, hg], (h.startBad hm).toMeasured⟩
  · exact ⟨s, by simp [Machine.exec, execStartCheck, hp], h⟩

theorem State.Measured.softStartEnd {s : State} (h : s.Measured) (hm : s.control.mode = .start) :
    ∃ t, exec .softStartEnd s = .next t ∧ t.Measured := by
  obtain ⟨-, -, hheld, -, hreset⟩ := h.start
  obtain ⟨hdrive, -⟩ := hreset hm
  by_cases hp : s.startUnit.phase = .reapplying
  · obtain ⟨hsome, hown⟩ := hheld hp
    exact ⟨s.enterListen, by simp [Machine.exec, execSoftStartEnd, hm, hp],
      (State.enterListen_working h.settings.1 hsome hown h.settings.2.1 hdrive).toMeasured⟩
  · exact ⟨s, by simp [Machine.exec, execSoftStartEnd, hp], h⟩

/-- Every command. -/
theorem State.Measured.exec {s : State} (h : s.Measured) (c : Instr) : ∃ t, exec c s = .next t ∧ t.Measured := by
  by_cases h1 : c = .hardwareReset
  · subst h1
    exact ⟨_, rfl, s.hardReset_measured (.inl rfl)⟩
  by_cases h2 : c = .resetPinAsserted
  · subst h2
    exact ⟨_, rfl, s.hardReset_measured (.inr rfl)⟩
  by_cases hm : s.control.mode = .start
  · by_cases h3 : ∃ record, c = .startCheck record
    · obtain ⟨record, rfl⟩ := h3
      exact h.startCheck hm record
    by_cases h4 : c = .softStartEnd
    · subst h4
      exact h.softStartEnd hm
    exact ⟨s, exec_start hm h1 h2 (fun record e => h3 ⟨record, e⟩) h4, h⟩
  · exact State.Working.exec ⟨h, hm⟩ h1 h2

/-- With no command, in START only the REFERENCE frame that a soft reset let go on is sent whole (R26, R28). -/
theorem State.Measured.idle {s : State} (h : s.Measured) : s.idle.Measured := by
  by_cases hm : s.control.mode = .start
  · obtain ⟨hset, ⟨hphase, hport, hheld, hempty, hreset⟩, htrack, -⟩ := h
    obtain ⟨hdrive, hline, hrest⟩ := hreset hm
    have hlink : s.idle.drive =
        { DriveLink.atReset with sending := s.idle.drive.sending, frame := s.idle.drive.frame } := by
      rw [State.idle_drive, hdrive]
      cases s.drive.sending <;> rfl
    have hwon : s.winContention = s := by simp [State.winContention, hline, Line.atReset]
    have hidle : s.idle = { s with drive := s.drive.sendOut } := by rw [State.idle, hwon]
    rw [hidle] at hlink ⊢
    exact ⟨hset, ⟨hphase, hport, hheld, hempty, fun _ => ⟨hlink, hline, hrest⟩⟩, htrack, State.driveOk_atReset hlink⟩
  · have hw : s.Working := ⟨h, hm⟩
    exact (hw.follows s.follows_idle).toMeasured

/-- Settles O58: every command keeps the four laws together, and so does a step with no command. -/
theorem stepKeepsMeasurement : Obligations.StepKeepsMeasurement := by
  intro s t hs hstep
  have h : s.Measured := ⟨hs.settings, hs.start, hs.tracker, hs.drive⟩
  have ht : ∃ u, step s = .next u ∧ u.Measured := by
    unfold step
    split
    next c rest _ =>
      have hq : ({ s with pending := rest } : State).Measured := ⟨h.settings, h.start, h.tracker, h.drive⟩
      exact hq.exec c
    next => exact ⟨_, rfl, h.idle⟩
  obtain ⟨u, hu, hset, hstart, htrack, hdrive⟩ := ht
  obtain rfl : t = u := by
    rw [hstep] at hu
    exact Host.Outcome.next.inj hu
  exact ⟨hset, hstart, htrack, hdrive⟩

end Sys2Proof.Machine
end

section
/-! SUPPORT. The queue of commands, and the section line's idle and attempt (R26, R30, R31, R37 to R44). -/

namespace Sys2Proof.Machine

/-- Settles O1: the front command by the definition of a step; the idling node by whether a contention is on and a
REFERENCE frame is being sent. -/
theorem stepRunsFrontCommand : Obligations.StepRunsFrontCommand := by
  refine ⟨fun c rest s => rfl, fun s h => ?_⟩
  have hstep : step s = .next s.idle := by rw [step, h]
  have hwon : s.winContention =
      { s with line := { s.line with tx := if s.line.tx = .contending then .sending else s.line.tx } } := by
    rw [State.winContention]
    split <;> rfl
  rw [hstep, State.idle, hwon]
  cases hd : s.drive.sending <;> simp only [DriveLink.sendOut, hd]

/-! ### The idle line (R31, R37, R40) -/

/-- The contention field of a class and the own station, as the class's two bits over the station's six (R30). -/
theorem contention_eq_or (cls : BitVec 2) (station : BitVec 6) :
    contention cls station = (cls.zeroExtend 8 <<< 6) ||| station.zeroExtend 8 := by
  revert cls station
  decide

/-- The report that an attempt composes, its mode, flags and summary written out (R42, R136, R192). -/
theorem State.reportContents_eq (s : State) :
    s.reportContents =
      { sequence := s.line.sequence
        shape :=
          { group := s.image.group, weight := s.image.weight, position := s.image.position, period := s.image.period }
        contents :=
          { mode := if s.control.mode.isTrim then .trim else if s.control.mode = .test then .test else .report
            speedValid := decide (s.tracker.state = .locked)
            torqueStale := decide (s.drive.staleRun ≠ 0)
            summary :=
              if s.fault.status &&& s.fault.classMap ≠ 0 then .trip else if s.fault.status ≠ 0 then .warn else .none
            testRunning := s.excitation.running
            speed := s.tracker.speed
            torque := s.drive.held
            trim := s.drive.lastWord
            testStep := if s.excitation.running then s.excitation.sentStep else 0
            testLevel := if s.excitation.running then s.excitation.sentLevel else .zero
            countCode := floatEncode s.excitation.count } } := by
  have hstale : s.drive.stale = decide (s.drive.staleRun ≠ 0) := by
    simp only [DriveLink.stale, Nat.one_le_iff_ne_zero]
  have hsummary : s.fault.summary =
      if s.fault.status &&& s.fault.classMap ≠ 0 then .trip else if s.fault.status ≠ 0 then .warn else .none := by
    simp only [FaultUnit.summary, FaultUnit.tripPending, decide_eq_true_eq]
  rw [State.reportContents, hstale, hsummary]
  cases s.control.mode <;> rfl

/-- An attempt on the idle line with something to send (R37, R40, R43). -/
theorem State.beginAttempt_of_choice {s : State} {a : Attempt} (hon : s.control.mode.lineOn = true)
    (hrx : s.line.rx = .ready) (hnone : s.line.attempt = none) (ha : s.chooseAttempt = some a) :
    s.beginAttempt =
      { s with line := { s.line with attempt := some a, tx := .contending, rx := .receiving, refill := false } } := by
  simp [State.beginAttempt, hon, hrx, hnone, ha]

/-- An attempt with nothing to send. -/
theorem State.beginAttempt_of_no_choice {s : State} (ha : s.chooseAttempt = none) : s.beginAttempt = s := by
  simp [State.beginAttempt, ha]

/-- Settles O38: the receiver by its rule, the attempt by what it chooses to send. -/
theorem lineIdleAndAttempt : Obligations.LineIdleAndAttempt := by
  refine ⟨fun s hon hrx hnone => ?_, fun s hon hrx hnone => ⟨fun a rest hq => ?_, fun hq hdue => ?_, fun hq hdue => ?_⟩⟩
  · simp [exec, execLineIdle, hon, hrx, hnone]
  · have hchoice : s.chooseAttempt =
        some { source := .answer, frame := frameChars (contention 1 (BitVec.ofNat 6 s.own)) a.payload } := by
      rw [State.chooseAttempt, hq]
    rw [contention_eq_or] at hchoice
    refine congrArg Host.Outcome.next ((State.beginAttempt_of_choice hon hrx hnone hchoice).trans ?_)
    cases h : a.outcome <;> simp only [Answer.payload, h] <;> rfl
  · have hchoice : s.chooseAttempt =
        some { source := .report,
               frame := frameChars (contention 2 (BitVec.ofNat 6 s.own)) (composeReport s.reportContents) } := by
      rw [State.chooseAttempt, hq]
      exact if_pos hdue
    rw [contention_eq_or, State.reportContents_eq] at hchoice
    exact congrArg Host.Outcome.next (State.beginAttempt_of_choice hon hrx hnone hchoice)
  · have hchoice : s.chooseAttempt = none := by simp [State.chooseAttempt, hq, hdue]
    exact congrArg Host.Outcome.next (State.beginAttempt_of_no_choice hchoice)

end Sys2Proof.Machine
end

section
/-! SUPPORT. Sets of notices: what is detect-masked counts for nothing, and two recorded notices of one set, by their
classes (R163 to R168). -/

namespace Sys2Proof.Machine

/-! ### What is in a set -/

/-- An empty set leaves a sound fault unit as it is (R163). -/
theorem State.takeNotices_nil {s : State} (h : s.fault.driveLines = s.fault) : s.takeNotices [] = s := by
  simp [State.takeNotices, State.recordNotices, FaultUnit.live, FaultUnit.requestsDrop, State.toFirstTrip,
    State.toFirstWarn, h]

/-- A set does what its notices that are not detect-masked do (R163). -/
theorem State.takeNotices_live (s : State) (ns : List Notice) : s.takeNotices ns = s.takeNotices (s.fault.live ns) := by
  have h : s.fault.live (s.fault.live ns) = s.fault.live ns := by simp [FaultUnit.live]
  have hrecord : s.recordNotices (s.fault.live ns) = s.recordNotices ns := by simp only [State.recordNotices, h]
  have hdrop : s.fault.requestsDrop (s.fault.live ns) = s.fault.requestsDrop ns := by
    simp only [FaultUnit.requestsDrop, h]
  have hhold : s.fault.dropsToHold (s.fault.live ns) = s.fault.dropsToHold ns := by
    simp only [FaultUnit.dropsToHold, h]
  rw [State.takeNotices, State.takeNotices, hrecord, hdrop, hhold]

/-- A detect-masked notice is as if it were not in the set. -/
theorem State.takeNotices_append_masked {s : State} (ns : List Notice) {n : Notice} (h : s.fault.masked n.kind) :
    s.takeNotices (ns ++ [n]) = s.takeNotices ns := by
  have hm : holds s.fault.detectMask n.kind = true := h
  rw [State.takeNotices_live, State.takeNotices_live s ns]
  simp [FaultUnit.live, hm]

theorem State.takeNotices_cons_masked {s : State} (ns : List Notice) {n : Notice} (h : s.fault.masked n.kind) :
    s.takeNotices (n :: ns) = s.takeNotices ns := by
  have hm : holds s.fault.detectMask n.kind = true := h
  rw [State.takeNotices_live, State.takeNotices_live s ns]
  simp [FaultUnit.live, hm]

/-! ### Two recorded notices -/

/-- The lines follow the status, whatever they were before (R169). -/
theorem FaultUnit.raised_driveLines (f : FaultUnit) (k : Kind) : f.driveLines.raised k = f.raised k := rfl

/-- Two notices counted one after the other, with the lines following. -/
theorem FaultUnit.count_count_driveLines (f : FaultUnit) (a b : Notice) :
    ((f.count a).count b).driveLines = (f.raised a.kind).raised b.kind := by
  rw [FaultUnit.count_driveLines, ← FaultUnit.raised_driveLines (f.count a), FaultUnit.count_driveLines]

/-- The order of the counting does not tell. -/
theorem FaultUnit.raised_comm (f : FaultUnit) (j k : Kind) : (f.raised j).raised k = (f.raised k).raised j := by
  have hs : ∀ a b : KindSet, f.status ||| a ||| b = f.status ||| b ||| a := fun a b => by
    rw [BitVec.or_assoc, BitVec.or_comm a, BitVec.or_assoc]
  simp only [FaultUnit.raised, FaultUnit.mk.injEq, true_and, hs (BitVec.ofNat 16 (2 ^ (j.number - 1)))]
  refine ⟨?_, rfl, rfl⟩
  ext i hi
  simp only [Vector.getElem_ofFn, Fin.getElem_fin]
  split <;> split <;> rfl

section Pair

variable {s : State} {a b : Notice}

/-- Two WARN-class notices: one entry in the first-warn record, for the lower number (R164, R167). -/
theorem State.takeNotices_warn_warn (ha : s.fault.warns a.kind) (hb : s.fault.warns b.kind)
    (hab : b.kind.number < a.kind.number) :
    s.takeNotices [a, b] =
      { s with fault :=
          { (s.fault.raised a.kind).warned b.kind b.source s.control.evaluations with multipleWarn := true } } := by
  obtain ⟨hca, hda⟩ : holds s.fault.classMap a.kind = false ∧ holds s.fault.detectMask a.kind = false := ha
  obtain ⟨hcb, hdb⟩ : holds s.fault.classMap b.kind = false ∧ holds s.fault.detectMask b.kind = false := hb
  simp only [State.takeNotices, State.recordNotices, FaultUnit.live, FaultUnit.requestsDrop, List.filter, hda, hdb, hca,
    hcb, List.any, List.foldl, FaultUnit.count_count_driveLines, State.toFirstTrip, State.toFirstWarn, FaultUnit.warned,
    Bool.not_false, Bool.or_false, Bool.false_eq_true, if_false, List.isEmpty_cons, lowest, if_pos hab,
    State.warnContents]
  rcases hw : s.fault.firstWarn with _ | c | c <;> simp [FaultUnit.raised, hw]

/-- Two TRIP-class notices that lead to no HOLD: one entry in the first-trip record, for the lower number, and one drop
(R164, R165, R168). -/
theorem State.takeNotices_trip_trip (ha : s.fault.trips a.kind) (hb : s.fault.trips b.kind)
    (hab : b.kind.number < a.kind.number) (hfa : a.kind.fixed = false) (hfb : b.kind.fixed = false) :
    s.takeNotices [a, b] =
      State.tripDrop
        { s with fault := { (s.fault.raised a.kind).tripped (s.tripContents b) with multipleTrip := true } } false := by
  obtain ⟨hca, hda⟩ : holds s.fault.classMap a.kind = true ∧ holds s.fault.detectMask a.kind = false := ha
  obtain ⟨hcb, hdb⟩ : holds s.fault.classMap b.kind = true ∧ holds s.fault.detectMask b.kind = false := hb
  have hk : (s.tripContents b).kind = b.kind := rfl
  simp only [State.takeNotices, State.recordNotices, FaultUnit.live, FaultUnit.requestsDrop, FaultUnit.dropsToHold,
    List.filter, hda, hdb, hca, hcb, hfa, hfb, List.any, List.foldl, FaultUnit.count_count_driveLines,
    State.toFirstTrip, State.toFirstWarn, FaultUnit.tripped, Bool.not_false, Bool.or_false, Bool.or_true, if_true,
    List.isEmpty_cons, Bool.not_true, lowest, if_pos hab, hk]
  rcases hw : s.fault.firstTrip with _ | c | c <;> simp [FaultUnit.raised, hw, State.tripContents]

/-- A WARN-class and a TRIP-class notice that lead to no HOLD: each goes to its own class's record, and the TRIP-class
one makes the drop (R164, R168). -/
theorem State.takeNotices_warn_trip (ha : s.fault.warns a.kind) (hb : s.fault.trips b.kind)
    (hfa : a.kind.fixed = false) (hfb : b.kind.fixed = false) :
    s.takeNotices [a, b] =
      State.tripDrop
        { s with fault :=
            (s.fault.warned a.kind a.source s.control.evaluations).tripped (s.tripContents b) } false := by
  obtain ⟨hca, hda⟩ : holds s.fault.classMap a.kind = false ∧ holds s.fault.detectMask a.kind = false := ha
  obtain ⟨hcb, hdb⟩ : holds s.fault.classMap b.kind = true ∧ holds s.fault.detectMask b.kind = false := hb
  have hk : (s.tripContents b).kind = b.kind := rfl
  simp only [State.takeNotices, State.recordNotices, FaultUnit.live, FaultUnit.requestsDrop, FaultUnit.dropsToHold,
    List.filter, hda, hdb, hca, hcb, hfa, hfb, List.any, List.foldl, FaultUnit.count_count_driveLines,
    State.toFirstTrip, State.toFirstWarn, FaultUnit.tripped, FaultUnit.warned, Bool.not_false, Bool.or_false,
    Bool.or_true, if_true, List.isEmpty_nil, Bool.not_true, lowest, hk]
  rcases hw : s.fault.firstTrip with _ | c | c <;> rcases hv : s.fault.firstWarn with _ | d | d <;>
    simp [FaultUnit.raised, hw, hv, State.tripContents, State.warnContents]

/-- The order within a set does not tell, where the two go to different records (R164). -/
theorem State.takeNotices_trip_warn (ha : s.fault.trips a.kind) (hb : s.fault.warns b.kind)
    (hfa : a.kind.fixed = false) (hfb : b.kind.fixed = false) : s.takeNotices [a, b] = s.takeNotices [b, a] := by
  obtain ⟨hca, hda⟩ : holds s.fault.classMap a.kind = true ∧ holds s.fault.detectMask a.kind = false := ha
  obtain ⟨hcb, hdb⟩ : holds s.fault.classMap b.kind = false ∧ holds s.fault.detectMask b.kind = false := hb
  have hcount := FaultUnit.raised_comm s.fault a.kind b.kind
  simp only [State.takeNotices, State.recordNotices, FaultUnit.live, FaultUnit.requestsDrop, FaultUnit.dropsToHold,
    List.filter, hda, hdb, hca, hcb, hfa, hfb, List.any, List.foldl, FaultUnit.count_count_driveLines, hcount,
    Bool.not_false, Bool.or_false, Bool.or_true, if_true, Bool.not_true]

end Pair

end Sys2Proof.Machine
end

section
/-! SUPPORT. The drive link's receiver: characters that open a frame, extend it, complete it or are dropped; a frame
taken, and a frame discarded (R17 to R21). -/

namespace Sys2Proof.Machine

/-! ### The receiver, character by character (R17) -/

/-- An open frame of fewer than four characters takes the next one whatever its value; the receiver that hunts takes the
start character. -/
theorem State.torqueCharacter_opens {s : State} {c : Byte} (hn : s.drive.opened.length < 4)
    (hc : s.drive.opened = [] → c = 0xD1) : s.torqueCharacter c = s.openTorque (s.drive.opened ++ [c]) := by
  unfold State.torqueCharacter
  split
  next ho =>
    rw [ho, List.nil_append]
    exact if_pos (hc ho)
  next ho => simp [ho] at hn
  next => rfl

/-- The fifth character completes the open frame, which is then judged. -/
theorem State.torqueCharacter_completes {s : State} {a b c d : Byte} (ho : s.drive.opened = [a, b, c, d]) (e : Byte) :
    s.torqueCharacter e = (s.openTorque []).judgeTorque a b c d e := by
  rw [State.torqueCharacter, ho]

/-- While the receiver hunts, it drops every character but the start character. -/
theorem State.torqueCharacter_drops {s : State} {c : Byte} (ho : s.drive.opened = []) (hc : c ≠ 0xD1) :
    s.torqueCharacter c = s := by
  rw [State.torqueCharacter, ho]
  exact if_neg hc

/-- Of several openings the last one stands. -/
theorem State.openTorque_openTorque (s : State) (l m : List Byte) :
    (s.openTorque l).openTorque m = s.openTorque m := rfl

/-- The open frame opened again as it stands. -/
theorem State.openTorque_self {s : State} {l : List Byte} (h : s.drive.opened = l) : s.openTorque l = s := by
  subst h
  rfl

/-! ### Characters one after the other -/

/-- Characters that do not fill the frame extend it; where none is open, the first is the start character. -/
theorem State.torqueCharacters_open {s : State} {chars : List Byte} (hn : (s.drive.opened ++ chars).length ≤ 4)
    (hd : s.drive.opened = [] → ∀ c ∈ chars.head?, c = 0xD1) :
    chars.foldl State.torqueCharacter s = s.openTorque (s.drive.opened ++ chars) := by
  induction chars generalizing s with
  | nil => rw [List.append_nil, State.openTorque_self rfl, List.foldl_nil]
  | cons c chars ih =>
    have hlen : s.drive.opened.length < 4 := by
      simp only [List.length_append, List.length_cons] at hn
      omega
    have hfirst : s.torqueCharacter c = s.openTorque (s.drive.opened ++ [c]) :=
      State.torqueCharacter_opens hlen fun ho => hd ho c rfl
    rw [List.foldl_cons, hfirst, ih (by simpa using hn) (by simp), State.openTorque_openTorque,
      State.openTorque_drive_opened, List.append_assoc, List.singleton_append]

/-- Characters other than the start character are dropped while the receiver hunts. -/
theorem State.torqueCharacters_dropped {s : State} {chars : List Byte} (ho : s.drive.opened = [])
    (hc : ∀ c ∈ chars, c ≠ 0xD1) : chars.foldl State.torqueCharacter s = s := by
  induction chars with
  | nil => rfl
  | cons c chars ih =>
    rw [List.foldl_cons, State.torqueCharacter_drops ho (hc c List.mem_cons_self)]
    exact ih fun d hd => hc d (List.mem_cons_of_mem _ hd)

/-- Characters that complete the frame: it is judged, and the receiver hunts again. -/
theorem State.torqueCharacters_complete {s : State} {chars : List Byte} {hi lo fl check : Byte}
    (hn : s.drive.opened.length ≤ 4) (h : s.drive.opened ++ chars = [0xD1, hi, lo, fl, check]) :
    chars.foldl State.torqueCharacter s = (s.openTorque []).judgeTorque 0xD1 hi lo fl check := by
  rcases chars.eq_nil_or_concat' with rfl | ⟨first, last, rfl⟩
  · rw [List.append_nil] at h
    simp [h] at hn
  · have hsplit : (s.drive.opened ++ first) ++ [last] = [0xD1, hi, lo, fl] ++ [check] := by
      rw [List.append_assoc, h]
      rfl
    obtain ⟨hfour, hlast⟩ := List.append_inj' hsplit rfl
    obtain rfl : last = check := List.singleton_injective hlast
    have hfirst : first.foldl State.torqueCharacter s = s.openTorque [0xD1, hi, lo, fl] := by
      rw [← hfour]
      refine State.torqueCharacters_open (by rw [hfour]; rfl) fun ho c hc => ?_
      rw [ho, List.nil_append] at hfour
      rw [hfour] at hc
      exact (Option.mem_some_iff.mp hc).symm
    rw [List.foldl_append, hfirst, List.foldl_cons, List.foldl_nil, State.torqueCharacter_completes rfl,
      State.openTorque_openTorque]

/-! ### The commands (R17, R18) -/

/-- TORQUE_FRAME outside START: its characters, one after the other. -/
theorem exec_torqueFrame {s : State} (hm : s.control.mode ≠ .start) (start word flags sum : List Byte) :
    exec (.torqueFrame start word flags sum) s
      = .next ((start ++ word ++ flags ++ sum).foldl State.torqueCharacter s) := by
  simp only [exec, execTorqueFrame, State.torqueArrives, if_neg hm]

/-- A gap or a framing error while the receiver hunts. -/
theorem State.cutTorque_hunting {s : State} (ho : s.drive.opened = []) : s.cutTorque = s := by
  rw [State.cutTorque, if_pos (Or.inr ho)]

/-- A gap or a framing error cuts an open frame off. -/
theorem State.cutTorque_open {s : State} (hm : s.control.mode ≠ .start) (ho : s.drive.opened ≠ []) :
    s.cutTorque = (s.openTorque []).discardTorque := by
  rw [State.cutTorque, if_neg (by simp [hm, ho])]

/-- A complete frame that fails its check, or that finds 255 frames in the accumulator, is discarded (R18, R19). -/
theorem State.judgeTorque_discards {s : State} {start hi lo fl check : Byte}
    (h : check ≠ start + hi + lo + fl ∨ 255 ≤ s.drive.count) :
    s.judgeTorque start hi lo fl check = s.discardTorque := by
  unfold State.judgeTorque State.offerTorque
  split
  next hsum =>
    exact if_neg (not_lt.mpr (h.resolve_left (not_not_intro hsum)))
  next => rfl

/-- Settles O18: a whole frame by its judgement, an open one by the cut, and the characters by what the receiver does
with each. -/
theorem torqueFrameDiscarded : Obligations.TorqueFrameDiscarded := by
  intro s start word flags sum hm hn chars holding t
  refine ⟨fun hi lo fl check h hbad => ?_, fun ho => ⟨?_, ?_, fun hlen => ?_⟩,
    fun ho => ⟨?_, ?_, fun dropped rest hchars hd hlen hhead => ?_⟩⟩
  · rw [exec_torqueFrame hm, State.torqueCharacters_complete hn h]
    exact congrArg Host.Outcome.next (State.judgeTorque_discards hbad)
  · exact congrArg Host.Outcome.next (State.cutTorque_open hm ho)
  · exact congrArg Host.Outcome.next (State.cutTorque_open hm ho)
  · rw [exec_torqueFrame hm, State.torqueCharacters_open hlen fun e => absurd e ho]
    rfl
  · exact congrArg Host.Outcome.next (State.cutTorque_hunting ho)
  · exact congrArg Host.Outcome.next (State.cutTorque_hunting ho)
  · have hchars' : start ++ word ++ flags ++ sum = dropped ++ rest := hchars
    rw [exec_torqueFrame hm, hchars', List.foldl_append, State.torqueCharacters_dropped ho hd,
      State.torqueCharacters_open (by simpa [ho] using hlen) fun _ => hhead, ho]
    rfl

end Sys2Proof.Machine
end

section
/-! SUPPORT. A TORQUE frame taken into the accumulator, with the notices it sends (R19 to R21, R110, R163 to R168). -/

namespace Sys2Proof.Machine

/-- The notice of a drive that is not ready (R21). -/
abbrev notReadyNotice : Notice := { kind := .driveLink, source := 0, cause := some .notReady }

/-- The notices of a frame that makes no DRIVE_LINK due: TORQUE_RANGE for a word beyond a limit, or none (R20, R21). -/
theorem State.torqueNotices_no_link {s : State} (word : Int) {ready : Bool}
    (h : ready = true ∨ s.control.mode.hasAuthority = false ∨ s.drive.posted = true) :
    s.torqueNotices word ready = if word < -30000 ∨ 30000 < word then [notice .torqueRange 0] else [] := by
  have hlink : ¬ (ready = false ∧ s.control.mode.hasAuthority = true ∧ s.drive.posted = false) := by
    rcases h with h | h | h <;> simp [h]
  rw [State.torqueNotices, if_neg hlink, List.append_nil]
  rfl

/-- The notices of a not-ready frame in TRIM or TEST with none posted: DRIVE_LINK, after TORQUE_RANGE where the word is
beyond a limit. -/
theorem State.torqueNotices_link {s : State} (word : Int) (ha : s.control.mode.hasAuthority = true)
    (hp : s.drive.posted = false) :
    s.torqueNotices word false =
      (if word < -30000 ∨ 30000 < word then [notice .torqueRange 0] else []) ++ [notReadyNotice] := by
  have hlink : false = false ∧ s.control.mode.hasAuthority = true ∧ s.drive.posted = false := ⟨rfl, ha, hp⟩
  rw [State.torqueNotices, if_pos hlink]
  rfl

/-- Where no DRIVE_LINK is due, a posting stands exactly as long as the drive is not ready (R21). -/
theorem posted_without_link {ready posted authority : Bool}
    (h : ready = true ∨ authority = false ∨ posted = true) :
    (!ready && (posted || authority)) = (posted && !ready) := by
  revert ready posted authority
  decide

/-- A word within the limits goes to the sum as it is (R20). -/
theorem clampTorque_within {word : Int} (h : ¬ (word < -30000 ∨ 30000 < word)) :
    clampInt (-Config.torqueMax) Config.torqueMax word = word := by
  have hmax : Config.torqueMax = 30000 := rfl
  exact clampInt_self (by omega) (by omega)

/-- For a word beyond the limits, the nearer limit goes to the sum (R20). -/
theorem clampTorque_beyond {word : Int} (h : word < -30000 ∨ 30000 < word) :
    clampInt (-Config.torqueMax) Config.torqueMax word = if word < 0 then -30000 else 30000 := by
  have hmax : Config.torqueMax = 30000 := rfl
  rw [clampInt, hmax]
  split <;> omega

/-- Last characters that complete a good frame while there is room: it is taken, and then its notices (R19 to R21). -/
theorem exec_torqueFrame_taken {s : State} {start word flags sum : List Byte} {hi lo fl : Byte}
    (hm : s.control.mode ≠ .start) (hn : s.drive.opened.length ≤ 4)
    (h : s.drive.opened ++ (start ++ word ++ flags ++ sum) = [0xD1, hi, lo, fl, 0xD1 + hi + lo + fl])
    (hc : s.drive.count < 255) :
    exec (.torqueFrame start word flags sum) s =
      .next (State.takeNotices ((s.openTorque []).accumulate (hi ++ lo).toInt (fl.getLsbD 0))
        (s.torqueNotices (hi ++ lo).toInt (fl.getLsbD 0))) := by
  have hsum : 0xD1 + hi + lo + fl = linkSum 0xD1 hi lo fl := rfl
  have hroom : (s.openTorque []).drive.count < Config.accumulatorMax := hc
  rw [exec_torqueFrame hm, State.torqueCharacters_complete hn h, State.judgeTorque, if_pos hsum, s16_eq,
    State.offerTorque, if_pos hroom]
  rfl

/-- A trip drop that leads to no HOLD finds nothing to drop outside TRIM and TEST (R110). -/
theorem State.tripDrop_no_authority {s : State} (h : s.control.mode.hasAuthority = false) : s.tripDrop false = s := by
  cases hm : s.control.mode <;> simp_all [State.tripDrop, Mode.hasAuthority]

/-- In a mode in which the line works, a sound transmitter stands as the queue and the slot give it (R37). -/
theorem State.LineOk.settled {s : State} (h : s.LineOk) (hon : s.control.mode.lineOn = true) :
    s.line.attempt = none → s.line.tx = if s.somethingToSend = true then .deferring else .idle := by
  obtain ⟨-, htx, -⟩ := h
  intro hn
  simpa [hon] using htx hn

/-- In TRIM and TEST the line works, and the node is out of START. -/
theorem Mode.lineOn_of_authority {m : Mode} (h : m.hasAuthority = true) : m.lineOn = true ∧ m ≠ .start := by
  cases m <;> simp_all [Mode.hasAuthority, Mode.lineOn]

/-- Settles O16: the frame is taken, and TORQUE_RANGE by its class. -/
theorem torqueFrameTaken : Obligations.TorqueFrameTaken := by
  intro s start word flags sum hi lo fl hf hm hn h hc hlink value taken nearer beyond record tripped command
  have hposted : (!fl.getLsbD 0 && (s.drive.posted || s.control.mode.hasAuthority))
      = (s.drive.posted && !fl.getLsbD 0) := posted_without_link hlink
  have htaken : ∀ added, clampInt (-Config.torqueMax) Config.torqueMax value = added →
      (s.openTorque []).accumulate value (fl.getLsbD 0) = taken added := by
    rintro _ rfl
    rw [State.accumulate, State.openTorque_drive_posted, State.openTorque_control, hposted]
    rfl
  have hwithin : ¬ beyond → exec command s = .next ((taken value).takeNotices []) := fun hb => by
    rw [exec_torqueFrame_taken hm hn h hc, State.torqueNotices_no_link _ hlink, if_neg hb,
      htaken _ (clampTorque_within hb)]
  have hbeyond : beyond → exec command s = .next ((taken nearer).takeNotice (notice .torqueRange 0)) := fun hb => by
    rw [exec_torqueFrame_taken hm hn h hc, State.torqueNotices_no_link _ hlink, if_pos hb,
      htaken _ (clampTorque_beyond hb)]
    rfl
  have htrip : s.fault.trips .torqueRange →
      (taken nearer).takeNotice (notice .torqueRange 0) = tripped.tripDrop false := fun ht =>
    State.takeNotice_trip (taken nearer) (notice .torqueRange 0) ht
  refine ⟨fun hb => ?_, fun hb hmask => ?_, fun hb hw => ?_, fun hb ht ha => ?_, fun hb ht ha hline => ?_⟩
  · rw [hwithin hb, State.takeNotices_nil (s := taken value) hf.driveLines]
  · rw [hbeyond hb, State.takeNotice_masked (taken nearer) (notice .torqueRange 0) hmask]
    exact congrArg (fun f => Host.Outcome.next { taken nearer with fault := f }) hf.driveLines
  · rw [hbeyond hb, State.takeNotice_warn (taken nearer) (notice .torqueRange 0) hw]
    rfl
  · rw [hbeyond hb, htrip ht, State.tripDrop_no_authority (s := tripped) ha]
  · rw [hbeyond hb, htrip ht]
    obtain ⟨hon, -⟩ := Mode.lineOn_of_authority ha
    exact congrArg Host.Outcome.next (State.tripDrop_authority (s := tripped) ha (hline.settled hon))

/-- Settles O17: the frame is taken and posted, and its one or two notices by their classes. -/
theorem notReadyAbortsTest : Obligations.NotReadyAbortsTest := by
  intro s start word flags sum hi lo fl hline ha hn h hc hr hp hf value beyond record link range posted dropped warned
    becomes
  obtain ⟨hon, hm⟩ := Mode.lineOn_of_authority ha
  have hdrop : ∀ f, (posted f).tripDrop false = dropped f := fun f =>
    State.tripDrop_authority (s := posted f) ha (hline.settled hon)
  have htaken : (s.openTorque []).accumulate value false = posted s.fault := by
    rw [State.accumulate, State.openTorque_control, ha, Bool.or_true]
    rfl
  have hexec : exec (.torqueFrame start word flags sum) s = .next ((posted s.fault).takeNotices
      ((if beyond then [notice .torqueRange 0] else []) ++ [notReadyNotice])) := by
    rw [exec_torqueFrame_taken hm hn h hc, hr, htaken, State.torqueNotices_link _ ha hp]
  have halone : ¬ beyond ∨ s.fault.masked .torqueRange →
      exec (.torqueFrame start word flags sum) s = .next ((posted s.fault).takeNotice notReadyNotice) := by
    intro hb
    rw [hexec]
    split
    next hbeyond =>
      exact congrArg Host.Outcome.next
        (State.takeNotices_cons_masked (s := posted s.fault) _ (hb.resolve_left (not_not_intro hbeyond)))
    next => rfl
  have hboth : beyond → exec (.torqueFrame start word flags sum) s
      = .next ((posted s.fault).takeNotices [notice .torqueRange 0, notReadyNotice]) := fun hb => by
    rw [hexec, if_pos hb]
    rfl
  have hrange : beyond → s.fault.masked .driveLink → exec (.torqueFrame start word flags sum) s
      = .next ((posted s.fault).takeNotice (notice .torqueRange 0)) := fun hb hmask => by
    rw [hboth hb]
    exact congrArg Host.Outcome.next
      (State.takeNotices_append_masked (s := posted s.fault) [notice .torqueRange 0] (n := notReadyNotice) hmask)
  refine ⟨fun hb => ⟨fun ht => ?_, fun hw => ?_, fun hmask => ?_⟩,
    fun hb hwr => ⟨fun ht => ?_, fun hw => ?_, fun hmask => ?_⟩,
    fun hb htr => ⟨fun ht => ?_, fun hw => ?_, fun hmask => ?_⟩⟩
  · exact (halone hb).trans (congrArg Host.Outcome.next
      ((State.takeNotice_trip (posted s.fault) notReadyNotice ht).trans (hdrop _)))
  · exact (halone hb).trans (congrArg Host.Outcome.next (State.takeNotice_warn (posted s.fault) notReadyNotice hw))
  · refine (halone hb).trans (congrArg Host.Outcome.next
      ((State.takeNotice_masked (posted s.fault) notReadyNotice hmask).trans ?_))
    exact congrArg posted hf.driveLines
  · exact (hboth hb).trans (congrArg Host.Outcome.next
      ((State.takeNotices_warn_trip (s := posted s.fault) hwr ht rfl rfl).trans (hdrop _)))
  · exact (hboth hb).trans (congrArg Host.Outcome.next
      (State.takeNotices_warn_warn (s := posted s.fault) hwr hw (by decide)))
  · exact (hrange hb hmask).trans (congrArg Host.Outcome.next
      (State.takeNotice_warn (posted s.fault) (notice .torqueRange 0) hwr))
  · exact (hboth hb).trans (congrArg Host.Outcome.next
      ((State.takeNotices_trip_trip (s := posted s.fault) htr ht (by decide) rfl rfl).trans (hdrop _)))
  · exact (hboth hb).trans (congrArg Host.Outcome.next
      ((State.takeNotices_trip_warn (s := posted s.fault) htr hw rfl rfl).trans
        ((State.takeNotices_warn_trip (s := posted s.fault) hw htr rfl rfl).trans (hdrop _))))
  · exact (hrange hb hmask).trans (congrArg Host.Outcome.next
      ((State.takeNotice_trip (posted s.fault) (notice .torqueRange 0) htr).trans (hdrop _)))

end Sys2Proof.Machine
end

section
/-! SUPPORT. What the works of an evaluation do to the drive link, to the mode with its authority, and to the line
(R22, R41, R94, R103 to R105, R110, R135). -/

namespace Sys2Proof.Machine

/-! ### A work before another -/

/-- Of two works, the one that comes before the other cuts the order in three. -/
theorem scheduleOf_cut {o : List EvalWork} {a b : EvalWork} (hab : comesBefore (scheduleOf o) a b = true) :
    ∃ l₁ l₂ l₃, scheduleOf o = l₁ ++ a :: (l₂ ++ b :: l₃) ∧ ∀ v ∈ l₁ ++ l₂ ++ l₃, v ≠ a ∧ v ≠ b := by
  have hidx : (scheduleOf o).idxOf a < (scheduleOf o).idxOf b := by simpa [comesBefore] using hab
  have hnodup := scheduleOf_nodup o
  have hb := mem_scheduleOf o b
  obtain ⟨l₁, rest, hl⟩ := List.append_of_mem (mem_scheduleOf o a)
  rw [hl] at hidx hnodup hb
  have ha₁ : a ∉ l₁ := fun h => List.disjoint_of_nodup_append hnodup h List.mem_cons_self
  have hb₁ : b ∉ l₁ := by
    intro h
    rw [List.idxOf_append_of_notMem ha₁, List.idxOf_append_of_mem h, List.idxOf_cons_self] at hidx
    exact absurd (List.idxOf_lt_length_of_mem h) (by omega)
  have hne : b ≠ a := by
    rintro rfl
    exact lt_irrefl _ hidx
  have hb₂ : b ∈ rest := (List.mem_cons.mp ((List.mem_append.mp hb).resolve_left hb₁)).resolve_left hne
  obtain ⟨l₂, l₃, rfl⟩ := List.append_of_mem hb₂
  refine ⟨l₁, l₂, l₃, hl, fun v hv => ⟨?_, ?_⟩⟩ <;> rintro rfl <;> grind

/-- What one work brings about, and a later one makes of it, holds after the works of an evaluation; `P`, `Q` and `R`
stand before the first, between the two and after the second, and the other works keep each. -/
theorem State.runWorks_reach_both {P Q R : State → Prop} {s : State} {o : List EvalWork} {a b : EvalWork}
    (hab : comesBefore (scheduleOf o) a b = true) (h : P s)
    (before : ∀ (v : EvalWork) (t : State), v ≠ a → v ≠ b → P t → P (t.work s.control.mode v))
    (first : ∀ t : State, P t → Q (t.work s.control.mode a))
    (between : ∀ (v : EvalWork) (t : State), v ≠ a → v ≠ b → Q t → Q (t.work s.control.mode v))
    (second : ∀ t : State, Q t → R (t.work s.control.mode b))
    (after : ∀ (v : EvalWork) (t : State), v ≠ a → v ≠ b → R t → R (t.work s.control.mode v)) :
    R (s.runWorks o) := by
  obtain ⟨l₁, l₂, l₃, hl, hother⟩ := scheduleOf_cut hab
  simp only [List.mem_append] at hother
  rw [State.runWorks_nil, hl, List.foldl_append, List.foldl_cons, List.foldl_append, List.foldl_cons]
  have h₁ := List.foldlRecOn (motive := P) l₁ (State.work s.control.mode) h fun t ht v hv =>
    before v t (hother v (.inl (.inl hv))).1 (hother v (.inl (.inl hv))).2 ht
  have h₂ := List.foldlRecOn (motive := Q) l₂ (State.work s.control.mode) (first _ h₁) fun t ht v hv =>
    between v t (hother v (.inl (.inr hv))).1 (hother v (.inl (.inr hv))).2 ht
  exact List.foldlRecOn (motive := R) l₃ (State.work s.control.mode) (second _ h₂) fun t ht v hv =>
    after v t (hother v (.inr hv)).1 (hother v (.inr hv)).2 ht

/-! ### The drive link (R22) -/

/-- The drive link once its accumulator is closed. -/
def DriveLink.closed (d : DriveLink) : DriveLink :=
  if d.count = 0 then { d with sum := 0, staleRun := satInc Config.runMax d.staleRun }
  else { d with sum := 0, count := 0, held := truncDiv d.sum d.count, staleRun := 0 }

theorem State.closeAccumulator_eq (s : State) : s.closeAccumulator = { s with drive := s.drive.closed } := rfl

/-- What a close makes of the accumulator. -/
theorem DriveLink.closed_spec (d : DriveLink) :
    d.closed.sum = 0 ∧ d.closed.count = 0
      ∧ (1 ≤ d.count → d.closed.held = d.sum.tdiv d.count ∧ d.closed.staleRun = 0)
      ∧ (d.count = 0 → d.closed.held = d.held ∧ d.closed.staleRun = min 255 (d.staleRun + 1)) := by
  unfold DriveLink.closed
  split
  next h => exact ⟨rfl, h, fun h1 => by omega, fun _ => ⟨rfl, rfl⟩⟩
  next h => exact ⟨rfl, rfl, fun _ => ⟨rfl, rfl⟩, fun h0 => absurd h0 h⟩

/-- What a close leaves as it was. -/
@[simp] theorem DriveLink.closed_frame (d : DriveLink) :
    d.closed.opened = d.opened ∧ d.closed.ready = d.ready ∧ d.closed.posted = d.posted
      ∧ d.closed.lastWord = d.lastWord ∧ d.closed.sending = d.sending ∧ d.closed.frame = d.frame
      ∧ d.closed.discards = d.discards ∧ d.closed.framesTaken = d.framesTaken := by
  unfold DriveLink.closed
  split <;> simp

theorem DriveLink.closed_posted (d : DriveLink) (p : Bool) :
    ({ d with posted := p } : DriveLink).closed = { d.closed with posted := p } := by
  unfold DriveLink.closed
  dsimp only
  split <;> rfl

/-- The drive link is `d`, but for the posted notice. -/
def State.DriveIs (t : State) (d : DriveLink) : Prop := t.drive = { d with posted := t.drive.posted }

theorem State.driveIs_self (s : State) : s.DriveIs s.drive := rfl

theorem State.DriveIs.of_drive {t u : State} {d : DriveLink} (h : t.DriveIs d)
    (hu : u.drive = { t.drive with posted := u.drive.posted }) : u.DriveIs d := by
  unfold State.DriveIs at h ⊢
  rw [hu, h]

theorem State.DriveIs.close {t : State} {d : DriveLink} (h : t.DriveIs d) : t.closeAccumulator.DriveIs d.closed := by
  rw [State.closeAccumulator_eq]
  show t.drive.closed = { d.closed with posted := t.drive.closed.posted }
  obtain ⟨-, -, hposted, -⟩ := t.drive.closed_frame
  have ht : t.drive = { d with posted := t.drive.posted } := h
  rw [← DriveLink.closed_posted, hposted, ← ht]

/-- Two drive links that agree field by field, but for the posted notice. -/
theorem DriveLink.eq_but_posted {d e : DriveLink} (h : d.opened = e.opened ∧ d.sum = e.sum ∧ d.count = e.count
    ∧ d.held = e.held ∧ d.staleRun = e.staleRun ∧ d.ready = e.ready ∧ d.lastWord = e.lastWord
    ∧ d.sending = e.sending ∧ d.frame = e.frame ∧ d.discards = e.discards ∧ d.framesTaken = e.framesTaken) :
    d = { e with posted := d.posted } := by
  cases d
  simpa using h

/-- A work besides the close leaves the drive link alone, but for the posted notice. -/
theorem State.work_drive (began : Mode) (s : State) {w : EvalWork} (hw : w ≠ .accumulatorClose) :
    (s.work began w).drive = { s.drive with posted := (s.work began w).drive.posted } := by
  apply DriveLink.eq_but_posted
  cases w with
  | accumulatorClose => exact absurd rfl hw
  | _ => simp [State.work]

/-- After the works of an evaluation the accumulator is closed, once. -/
theorem State.runWorks_drive (s : State) (order : List EvalWork) : (s.runWorks order).DriveIs s.drive.closed :=
  State.runWorks_reach (P := (·.DriveIs s.drive)) (Q := (·.DriveIs s.drive.closed)) order .accumulatorClose
    s.driveIs_self (fun _ t hv ht => ht.of_drive (t.work_drive _ hv)) (fun _ ht => ht.close)
    fun _ t hv ht => ht.of_drive (t.work_drive _ hv)

/-! ### Mode, authority and line -/

/-- The authority count, the applied trim and the integrator are 0 (R104, R110). -/
def State.Zeroed (s : State) : Prop :=
  s.control.authority = 0 ∧ s.control.trim = 0 ∧ s.balance.integrator = 0

/-- How the works of an evaluation move the node from `s` to `t`: without authority mode and line stand still; TRIM and
TEST end, if they end, in REPORT with authority removed and the test ended; and of the line the transmitter alone can
move. -/
structure State.Moves (t s : State) : Prop where
  line : t.line = { s.line with tx := t.line.tx }
  still : s.control.mode.hasAuthority = false →
    t.control.mode = s.control.mode ∧ t.line = s.line ∧ t.excitation.running = s.excitation.running
  trim : s.control.mode.isTrim = true → t.control.mode.isTrim = true ∨ (t.control.mode = .report ∧ t.Zeroed)
  test : s.control.mode = .test →
    t.control.mode = .test ∨ (t.control.mode = .report ∧ t.excitation.running = false)
  zeroed : s.control.mode.isTrim = false → s.Zeroed → t.Zeroed

/-- The modes by their authority. -/
theorem Mode.authority_cases (m : Mode) :
    m.isTrim = true ∨ m = .test ∨ (m.hasAuthority = false ∧ m.isTrim = false) := by
  cases m <;> simp [Mode.isTrim, Mode.hasAuthority]

/-- An operation that leaves mode, authority, line and the running of a test alone. -/
theorem State.Moves.of_eq {s t : State} (h : t.control = s.control ∧ t.line = s.line
    ∧ t.balance.integrator = s.balance.integrator ∧ t.excitation.running = s.excitation.running) : t.Moves s := by
  obtain ⟨hc, hl, hu, hr⟩ := h
  refine ⟨by rw [hl], fun _ => ⟨by rw [hc], hl, hr⟩, fun h => .inl (by rwa [hc]), fun h => .inl (by rwa [hc]),
    fun _ hz => ?_⟩
  unfold State.Zeroed at hz ⊢
  rwa [hc, hu]

theorem State.Moves.refl (s : State) : s.Moves s := .of_eq ⟨rfl, rfl, rfl, rfl⟩

theorem State.Moves.trans {s t u : State} (h : u.Moves t) (h' : t.Moves s) : u.Moves s where
  line := by rw [h.line, h'.line]
  still := fun hs => by
    obtain ⟨hm, hl, hr⟩ := h'.still hs
    obtain ⟨hm', hl', hr'⟩ := h.still (by rwa [hm])
    exact ⟨hm'.trans hm, hl'.trans hl, hr'.trans hr⟩
  trim := fun hs => by
    rcases h'.trim hs with ht | ⟨ht, hz⟩
    · exact h.trim ht
    · obtain ⟨hm, -, -⟩ := h.still (by rw [ht]; rfl)
      exact .inr ⟨hm.trans ht, h.zeroed (by rw [ht]; rfl) hz⟩
  test := fun hs => by
    rcases h'.test hs with ht | ⟨ht, hr⟩
    · exact h.test ht
    · obtain ⟨hm, -, hr'⟩ := h.still (by rw [ht]; rfl)
      exact .inr ⟨hm.trans ht, hr'.trans hr⟩
  zeroed := fun hs hz => by
    refine h.zeroed ?_ (h'.zeroed hs hz)
    rcases s.control.mode.authority_cases with hm | hm | ⟨hm, -⟩
    · simp [hm] at hs
    · rcases h'.test hm with ht | ⟨ht, -⟩ <;> rw [ht] <;> rfl
    · rw [(h'.still hm).1, hs]

/-- A condition that chooses between two operations. -/
theorem State.Moves.ite {s t u : State} {c : Prop} [Decidable c] (ht : c → t.Moves s) (hu : ¬ c → u.Moves s) :
    (if c then t else u).Moves s := by
  split
  · exact ht ‹_›
  · exact hu ‹_›

/-- What a node in TRIM does within TRIM. -/
theorem State.Moves.within_trim {s t : State} (hs : s.control.mode.isTrim = true) (ht : t.control.mode.isTrim = true)
    (hl : t.line = s.line) : t.Moves s where
  line := by rw [hl]
  still := fun h => by cases hm : s.control.mode <;> simp_all [Mode.isTrim, Mode.hasAuthority]
  trim := fun _ => .inl ht
  test := fun h => by simp [h, Mode.isTrim] at hs
  zeroed := fun h => by simp [hs] at h

/-- A change to REPORT leaves of the line all but the transmitter (R41). -/
theorem State.changeMode_report_line (s : State) :
    (s.changeMode .report).line = { s.line with tx := (s.changeMode .report).line.tx } := by
  unfold State.changeMode State.settleTx
  split <;> rfl

/-- TRIM left for REPORT with authority removed. -/
theorem State.moves_leaveTrim {s : State} (hs : s.control.mode.isTrim = true) :
    (s.zeroAuthority.changeMode .report).Moves s where
  line := State.changeMode_report_line s.zeroAuthority
  still := fun h => by cases hm : s.control.mode <;> simp_all [Mode.isTrim, Mode.hasAuthority]
  trim := fun _ => .inr ⟨by simp, by simp [State.Zeroed, State.zeroAuthority]⟩
  test := fun h => by simp [h, Mode.isTrim] at hs
  zeroed := fun h => by simp [hs] at h

/-- TEST left for REPORT with the test ended. -/
theorem State.moves_leaveTest {s : State} (hs : s.control.mode = .test) (o : TestOutcome) :
    ((s.endTest o).changeMode .report).Moves s where
  line := State.changeMode_report_line (s.endTest o)
  still := fun h => by simp [hs, Mode.hasAuthority] at h
  trim := fun h => by simp [hs, Mode.isTrim] at h
  test := fun _ => .inr ⟨by simp, by simp [State.endTest]⟩
  zeroed := fun _ hz => by simpa [State.Zeroed, State.endTest] using hz

theorem State.moves_zeroAuthority {s : State} (hs : s.control.mode = .test) : s.zeroAuthority.Moves s where
  line := rfl
  still := fun h => by simp [hs, Mode.hasAuthority] at h
  trim := fun h => by simp [hs, Mode.isTrim] at h
  test := fun _ => .inl hs
  zeroed := fun _ _ => ⟨rfl, rfl, rfl⟩

/-! ### The trip drop and notices -/

/-- A trip drop that leads to no HOLD (R110). -/
theorem State.moves_tripDrop (s : State) : (s.tripDrop false).Moves s := by
  rcases s.control.mode.authority_cases with hm | hm | ⟨hm, -⟩
  · obtain ⟨p, hp⟩ : ∃ p, s.control.mode = .trim p := by cases h : s.control.mode <;> simp_all [Mode.isTrim]
    have hdrop : s.tripDrop false = s.zeroAuthority.changeMode .report := by simp [State.tripDrop, hp]
    rw [hdrop]
    exact State.moves_leaveTrim hm
  · have hdrop : s.tripDrop false = (s.zeroAuthority.endTest .aborted).changeMode .report := by
      simp [State.tripDrop, hm]
    rw [hdrop]
    exact (State.moves_leaveTest (s := s.zeroAuthority) hm .aborted).trans (State.moves_zeroAuthority hm)
  · rw [State.tripDrop_no_authority hm]
    exact .refl s

/-- A TRIP-class notice that leads to no HOLD leaves neither authority nor a test. -/
theorem State.tripDrop_ends {s : State} (h : s.control.mode.hasAuthority = true) :
    (s.tripDrop false).control.mode = .report ∧ (s.tripDrop false).Zeroed
      ∧ (s.control.mode = .test → (s.tripDrop false).excitation.running = false) := by
  cases hm : s.control.mode <;>
    simp_all [State.tripDrop, Mode.hasAuthority, State.Zeroed, State.zeroAuthority, State.endTest]

/-- Notices of no kind that leads to HOLD drop no node there (R168). -/
theorem FaultUnit.dropsToHold_eq_false {f : FaultUnit} {ns : List Notice} (h : ∀ n ∈ ns, n.kind.fixed = false) :
    f.dropsToHold ns = false := by
  rw [FaultUnit.dropsToHold, List.any_eq_false]
  intro n hn
  simp [h n (List.mem_of_mem_filter hn)]

theorem State.moves_takeNotices (s : State) {ns : List Notice} (h : ∀ n ∈ ns, n.kind.fixed = false) :
    (s.takeNotices ns).Moves s := by
  have hr : (s.recordNotices ns).Moves s := .of_eq (by simp)
  unfold State.takeNotices
  rw [FaultUnit.dropsToHold_eq_false h]
  exact .ite (fun _ => (State.moves_tripDrop _).trans hr) fun _ => hr

/-! ### What each work does before its notices -/

/-- The kinds that the works besides the stale notice may send (R84 to R86, R121, R139, R154). -/
abbrev workKinds : List Kind := [.groupShort, .trimSaturated, .shareTol, .drawTol, .testLimit, .couplingMismatch]

/-- The node is `u` with a set of the works' notices taken, or `u` with none. -/
def State.Notifies (t u : State) : Prop :=
  t = u ∨ ∃ ns : List Notice, (∀ n ∈ ns, n.kind ∈ workKinds) ∧ t = u.takeNotices ns

theorem State.Notifies.single (u : State) (n : Notice) (h : n.kind ∈ workKinds) : (u.takeNotice n).Notifies u :=
  .inr ⟨[n], by simpa using h, rfl⟩

theorem State.fadeStep_moves (s : State) : s.fadeStep.Moves s := by
  unfold State.fadeStep
  split
  next hm =>
    have hs : s.control.mode.isTrim = true := by rw [hm]; rfl
    refine .ite (fun _ => .within_trim hs rfl rfl) fun _ => .within_trim hs ?_ rfl
    exact hs
  next hm =>
    have hs : s.control.mode.isTrim = true := by rw [hm]; rfl
    refine .ite (fun _ => State.moves_leaveTrim hs) fun _ => .within_trim hs ?_ rfl
    exact hs
  next => exact .refl s

/-- Outside TRIM the engine's work leaves the integrator at 0 (R81). -/
theorem State.balanced_moves (s : State) : ({ s with balance := s.balanced } : State).Moves s where
  line := rfl
  still := fun _ => ⟨rfl, rfl, rfl⟩
  trim := fun h => .inl h
  test := fun h => .inl h
  zeroed := fun h ⟨ha, hy, _⟩ => by
    refine ⟨ha, hy, ?_⟩
    show nextIntegrator s.control.mode _ _ _ = 0
    cases hm : s.control.mode <;> simp_all [nextIntegrator, Mode.isTrim]

theorem State.balanceWork_notifies (s : State) :
    s.balanceWork = s ∨ s.balanceWork.Notifies { s with balance := s.balanced } := by
  unfold State.balanceWork
  split
  · refine .inr (.inr ⟨_, fun n hn => ?_, rfl⟩)
    have honly : ∀ (c : Prop) [Decidable c] (k : Kind), n ∈ (if c then [notice k 0] else []) → n.kind = k :=
      fun c _ k h => by
        split at h
        · rw [List.mem_singleton.mp h]
          rfl
        · exact absurd h List.not_mem_nil
    simp only [State.balanceNotices, List.mem_append] at hn
    rcases hn with (hn | hn) | hn <;> rw [honly _ _ hn] <;> decide
  · exact .inl rfl

theorem State.drawWork_notifies (s : State) :
    s.drawWork = s ∨ s.drawWork.Notifies { s with draw := s.verified } := by
  unfold State.drawWork
  dsimp only
  split
  · split
    · exact .inr (.single _ _ (by decide))
    · exact .inr (.inl rfl)
  · exact .inl rfl

theorem State.moves_excitation (s : State) (x : Excitation) (h : x.running = s.excitation.running) :
    ({ s with excitation := x } : State).Moves s :=
  .of_eq ⟨rfl, rfl, rfl, h⟩

/-- The step of a running test does not end its running but at its normal end. -/
theorem State.runStep_moves {s : State} (hm : s.control.mode = .test) (p : Pattern) : (s.runStep p).Moves s := by
  have hx : ({ s with excitation := (s.checkResponse p).advance p } : State).Moves s := by
    refine s.moves_excitation _ ?_
    unfold Excitation.advance
    split <;> rfl
  exact .ite (fun _ => State.Moves.trans (State.moves_leaveTest (by exact hm) _) hx) fun _ => hx

theorem State.excitationWork_notifies (s : State) :
    ∃ u : State, u.Moves s ∧ u.fault = s.fault ∧ s.excitationWork.Notifies u := by
  unfold State.excitationWork
  split
  next p hm _ =>
    have hr := State.runStep_moves hm p
    split
    · exact ⟨_, (State.moves_excitation _ { (s.runStep p).excitation with limitPosted := true } rfl).trans hr, by simp,
        .single _ (notice .testLimit 0) (by decide)⟩
    · exact ⟨_, hr, by simp, .inl rfl⟩
  next => exact ⟨s, .refl s, rfl, .inl rfl⟩

/-- The two states differ in the peer table, the observation slot and what no work but the observer's sees. -/
abbrev State.Alike (t s : State) : Prop :=
  t.control = s.control ∧ t.line = s.line ∧ t.balance = s.balance ∧ t.excitation = s.excitation ∧ t.fault = s.fault

theorem State.giveVerdict_notifies (s : State) (k : Nat) :
    ∃ u : State, u.Alike s ∧ (s.giveVerdict k).Notifies u := by
  refine ⟨s.setPeer k { s.peer k with verdict := some (s.peer k).judged, marker := false }, by simp [State.Alike], ?_⟩
  unfold State.giveVerdict
  dsimp only
  split
  · exact .single _ _ (by simp [notice])
  · exact .inl rfl

/-- All that the observer's work does beside the peer table and the slot is to give a verdict (R150, R152). -/
theorem State.observe_notifies (s : State) : ∃ u : State, u.Alike s ∧ s.observe.Notifies u := by
  have quiet : ∀ t : State, t.Alike s → ∃ u : State, u.Alike s ∧ t.Notifies u := fun t ht => ⟨t, ht, .inl rfl⟩
  have verdict : ∀ (t : State) (k : Nat), t.Alike s → ∃ u : State, u.Alike s ∧ (t.giveVerdict k).Notifies u :=
    fun t k ⟨hc, hl, hb, hx, hf⟩ =>
      have ⟨u, ⟨hc', hl', hb', hx', hf'⟩, hn⟩ := t.giveVerdict_notifies k
      ⟨u, ⟨hc'.trans hc, hl'.trans hl, hb'.trans hb, hx'.trans hx, hf'.trans hf⟩, hn⟩
  unfold State.observe
  split
  · exact quiet _ (by simp [State.Alike])
  · split <;> exact quiet _ (by simp [State.Alike])
  · split
    · exact quiet _ (by simp [State.Alike])
    · split <;> exact quiet _ (by simp [State.Alike])
  · split <;> exact quiet _ (by simp [State.Alike])
  · exact verdict _ _ (by simp [State.Alike])
  · exact verdict _ _ (by simp [State.Alike])

/-- All that a work besides the close and the stale notice does: its own update, and then its notices. -/
theorem State.work_notifies (began : Mode) (s : State) {w : EvalWork} (hc : w ≠ .accumulatorClose)
    (hn : w ≠ .staleNotice) :
    ∃ u : State, u.Moves s ∧ u.fault = s.fault ∧ (s.work began w).Notifies u := by
  have idle : s.Moves s ∧ s.fault = s.fault := ⟨.refl s, rfl⟩
  cases w with
  | accumulatorClose => exact absurd rfl hc
  | staleNotice => exact absurd rfl hn
  | fadeStep => exact ⟨s.fadeStep, s.fadeStep_moves, by simp, .inl rfl⟩
  | balanceEngine =>
    rcases s.balanceWork_notifies with h | h
    · exact ⟨s, .refl s, rfl, .inl h⟩
    · exact ⟨_, s.balanced_moves, rfl, h⟩
  | drawVerifier =>
    rcases s.drawWork_notifies with h | h
    · exact ⟨s, .refl s, rfl, .inl h⟩
    · exact ⟨{ s with draw := s.verified }, .of_eq ⟨rfl, rfl, rfl, rfl⟩, rfl, h⟩
  | excitationUnit => exact s.excitationWork_notifies
  | couplingObserver =>
    simp only [State.work, State.observeEvaluation]
    split
    · obtain ⟨u, ⟨hc, hl, hb, hx, hf⟩, h⟩ := s.observe_notifies
      exact ⟨u, .of_eq ⟨hc, hl, by rw [hb], by rw [hx]⟩, hf, h⟩
    · exact ⟨s, .refl s, rfl, .inl rfl⟩

theorem State.moves_work (began : Mode) (s : State) (w : EvalWork) : (s.work began w).Moves s := by
  by_cases hc : w = .accumulatorClose
  · subst hc
    exact .of_eq ⟨rfl, rfl, rfl, rfl⟩
  by_cases hn : w = .staleNotice
  · subst hn
    exact .ite (fun _ => s.moves_takeNotices (by decide)) fun _ => .refl s
  obtain ⟨u, hu, -, rfl | ⟨ns, hns, he⟩⟩ := s.work_notifies began hc hn
  · exact hu
  · rw [he]
    refine (u.moves_takeNotices fun n h => ?_).trans hu
    have hfixed : ∀ k ∈ workKinds, k.fixed = false := by decide
    exact hfixed _ (hns n h)

theorem State.moves_runWorks (s : State) (order : List EvalWork) : (s.runWorks order).Moves s :=
  State.runWorks_induct (P := (·.Moves s)) order (.refl s) fun w t ht => (t.moves_work _ w).trans ht

end Sys2Proof.Machine
end

section
/-! SUPPORT. DRIVE_LINK at a stale run of 3, among the other notices of an evaluation (R23, R110, R163 to R165), and the
close of the accumulator. -/

namespace Sys2Proof.Machine

/-! ### What the other works leave of DRIVE_LINK -/

/-- DRIVE_LINK's flag, count, class and mask in `g` are those of `f`; and the first-trip record too, where the kinds
that the works may send are WARN class. -/
structure FaultUnit.SparesLink (g f : FaultUnit) : Prop where
  classMap : g.classMap = f.classMap
  detectMask : g.detectMask = f.detectMask
  status : g.status.getLsbD 2 = f.status.getLsbD 2
  count : g.counts[2] = f.counts[2]
  record : f.classMap &&& 0x3780 = 0 → g.firstTrip = f.firstTrip

theorem FaultUnit.SparesLink.refl (f : FaultUnit) : f.SparesLink f := ⟨rfl, rfl, rfl, rfl, fun _ => rfl⟩

theorem FaultUnit.SparesLink.trans {f g h : FaultUnit} (a : h.SparesLink g) (b : g.SparesLink f) : h.SparesLink f :=
  ⟨a.classMap.trans b.classMap, a.detectMask.trans b.detectMask, a.status.trans b.status, a.count.trans b.count,
    fun hc => (a.record (by rwa [b.classMap])).trans (b.record hc)⟩

/-- A notice of another kind counted. -/
theorem FaultUnit.sparesLink_count (f : FaultUnit) {n : Notice} (h : n.kind ≠ .driveLink) :
    (f.count n).SparesLink f := by
  have hbit : n.kind.flag.getLsbD 2 = false := by
    cases hk : n.kind with
    | driveLink => exact absurd hk h
    | _ => rfl
  have hplace : n.kind.number - 1 ≠ 2 := by
    cases hk : n.kind with
    | driveLink => exact absurd hk h
    | _ => decide
  refine ⟨rfl, rfl, ?_, ?_, fun _ => rfl⟩
  · rw [show (f.count n).status = f.status ||| n.kind.flag from rfl, BitVec.getLsbD_or, hbit, Bool.or_false]
  · simp [FaultUnit.count, hplace]

/-- Every kind that the works may send is WARN class, where the class map says so of the six. -/
theorem workKinds_warn {classMap : KindSet} (h : classMap &&& 0x3780 = 0) {k : Kind} (hk : k ∈ workKinds) :
    holds classMap k = false := by
  have hbit : ∀ i, (classMap &&& 0x3780).getLsbD i = false := fun i => by rw [h]; simp
  have hmask : ∀ k ∈ workKinds, (0x3780 : KindSet).getLsbD (k.number - 1) = true := by decide
  have hk' := hbit (k.number - 1)
  rwa [BitVec.getLsbD_and, hmask k hk, Bool.and_true] at hk'

/-- What a set of notices does to the fault unit is to be recorded (R163). -/
theorem State.takeNotices_fault (s : State) (ns : List Notice) :
    (s.takeNotices ns).fault = (s.recordNotices ns).fault := by
  unfold State.takeNotices
  dsimp only
  split <;> simp

theorem State.sparesLink_takeNotices (s : State) {ns : List Notice} (h : ∀ n ∈ ns, n.kind ∈ workKinds) :
    (s.takeNotices ns).fault.SparesLink s.fault := by
  have hlive : ∀ n ∈ s.fault.live ns, n.kind ∈ workKinds := fun n hn => h n (List.mem_of_mem_filter hn)
  have hother : Kind.driveLink ∉ workKinds := by decide
  have hcount : ((s.fault.live ns).foldl FaultUnit.count s.fault).SparesLink s.fault :=
    List.foldlRecOn (motive := fun f : FaultUnit => f.SparesLink s.fault) _ _ (.refl _) fun f hf n hn =>
      (f.sparesLink_count fun e => hother (e ▸ hlive n hn)).trans hf
  rw [State.takeNotices_fault]
  refine ⟨by simp, by simp, ?_, ?_, fun hc => ?_⟩
  · simpa [State.recordNotices, FaultUnit.driveLines] using hcount.status
  · simpa [State.recordNotices, FaultUnit.driveLines] using hcount.count
  · have hnone : (s.fault.live ns).filter (fun n => holds s.fault.classMap n.kind) = [] :=
      List.filter_eq_nil_iff.mpr fun n hn => by simp [workKinds_warn hc (hlive n hn)]
    have hwarn : ∀ (t : State) (ms : List Notice), (t.toFirstWarn ms).fault.firstTrip = t.fault.firstTrip := by
      intro t ms
      unfold State.toFirstWarn
      split
      · rfl
      · split <;> rfl
    simp only [State.recordNotices, hnone, State.toFirstTrip, hwarn]
    exact hcount.record hc

/-- Every work but the stale notice. -/
theorem State.sparesLink_work (began : Mode) (s : State) {w : EvalWork} (hn : w ≠ .staleNotice) :
    (s.work began w).fault.SparesLink s.fault := by
  by_cases hc : w = .accumulatorClose
  · subst hc
    exact .refl _
  obtain ⟨u, -, hf, rfl | ⟨ns, hns, he⟩⟩ := s.work_notifies began hc hn
  · rw [hf]
    exact .refl _
  · rw [he, ← hf]
    exact u.sparesLink_takeNotices hns

/-! ### The stale notice (R23) -/

/-- The notice of a stale run that has become 3. -/
abbrev staleLinkNotice : Notice := { kind := .driveLink, source := 0, cause := some .stale }

/-- The stale notice falls after the close: it finds the stale run that the close gives, over what the works before it
keep. -/
theorem State.runWorks_around_stale {P R : State → Prop} {s : State} (order : List EvalWork) (h : P s)
    (before : ∀ (v : EvalWork) (t : State), v ≠ .staleNotice → P t → P (t.work s.control.mode v))
    (here : ∀ t : State, P t → t.DriveIs s.drive.closed → R (t.staleNotice s.control.mode))
    (later : ∀ (v : EvalWork) (t : State), v ≠ .staleNotice → R t → R (t.work s.control.mode v)) :
    R (s.runWorks order) := by
  obtain ⟨hab, -, -⟩ := scheduleOf_before order
  refine State.runWorks_reach_both (P := fun t => P t ∧ t.DriveIs s.drive)
    (Q := fun t => P t ∧ t.DriveIs s.drive.closed) hab ⟨h, s.driveIs_self⟩ ?_ ?_ ?_ ?_ ?_
  · exact fun v t hv hn ⟨hp, hd⟩ => ⟨before v t hn hp, hd.of_drive (t.work_drive _ hv)⟩
  · exact fun t ⟨hp, hd⟩ => ⟨before .accumulatorClose t (by decide) hp, hd.close⟩
  · exact fun v t hv hn ⟨hp, hd⟩ => ⟨before v t hn hp, hd.of_drive (t.work_drive _ hv)⟩
  · exact fun t ⟨hp, hd⟩ => here t hp hd
  · exact fun v t _ hn ht => later v t hn ht

/-- The stale run becomes 3 at this evaluation, in TRIM or TEST (R23). -/
abbrev State.Lapsing (s : State) : Prop :=
  s.drive.count = 0 ∧ s.drive.staleRun = 2 ∧ s.control.mode.hasAuthority = true

/-- After the close the stale run is 3 exactly where it lapses. -/
theorem DriveLink.closed_staleRun_eq_three (d : DriveLink) :
    d.closed.staleRun = 3 ↔ d.count = 0 ∧ d.staleRun = 2 := by
  obtain ⟨-, -, hmean, hempty⟩ := d.closed_spec
  by_cases h : d.count = 0
  · rw [(hempty h).2]
    omega
  · rw [(hmean (by omega)).2]
    omega

theorem State.staleNotice_lapsing {s t : State} (h : s.Lapsing) (hd : t.DriveIs s.drive.closed) :
    t.staleNotice s.control.mode = t.takeNotice staleLinkNotice := by
  obtain ⟨hc, hr, ha⟩ := h
  have hrun : t.drive.staleRun = 3 := by
    rw [show t.drive.staleRun = s.drive.closed.staleRun by rw [hd]]
    exact s.drive.closed_staleRun_eq_three.mpr ⟨hc, hr⟩
  exact if_pos ⟨hrun, ha⟩

theorem State.staleNotice_not_lapsing {s t : State} (h : ¬ s.Lapsing) (hd : t.DriveIs s.drive.closed) :
    t.staleNotice s.control.mode = t := by
  refine if_neg fun ⟨hrun, ha⟩ => h ?_
  rw [show t.drive.staleRun = s.drive.closed.staleRun by rw [hd]] at hrun
  obtain ⟨hc, hr⟩ := s.drive.closed_staleRun_eq_three.mp hrun
  exact ⟨hc, hr, ha⟩

/-- A notice that is recorded counts and sets its kind, whatever its class (R163). -/
theorem State.takeNotice_recorded (s : State) {n : Notice} (h : holds s.fault.detectMask n.kind = false) :
    (s.takeNotice n).fault.status = (s.fault.raised n.kind).status
      ∧ (s.takeNotice n).fault.counts = (s.fault.raised n.kind).counts := by
  simp only [State.takeNotice, State.takeNotices_fault, State.recordNotices, FaultUnit.live, List.filter, h,
    Bool.not_false, List.foldl, FaultUnit.count_driveLines]
  simp

/-- A first-trip record that is not locked is filled (R165). -/
theorem FaultUnit.tripped_firstTrip {f : FaultUnit} (c : TripContents) (h : ∀ d, f.firstTrip ≠ .locked d) :
    (f.tripped c).firstTrip = .locked c := by
  unfold FaultUnit.tripped
  split
  next d hd => exact absurd hd (h d)
  next => rfl

/-- Wherever the works have moved a node with authority, a trip drop leaves it in REPORT with authority removed and no
test running (R110, R142). -/
theorem State.Moves.dropped {s t : State} (h : t.Moves s) (ha : s.control.mode.hasAuthority = true)
    (hz : s.control.mode = .test → s.Zeroed) :
    (t.tripDrop false).control.mode = .report ∧ (t.tripDrop false).Zeroed
      ∧ (s.control.mode = .test → (t.tripDrop false).excitation.running = false) := by
  by_cases hta : t.control.mode.hasAuthority = true
  · obtain ⟨hm, hzero, hr⟩ := State.tripDrop_ends hta
    refine ⟨hm, hzero, fun hs => hr ((h.test hs).resolve_right fun ⟨ht, _⟩ => ?_)⟩
    simp [ht, Mode.hasAuthority] at hta
  · rw [State.tripDrop_no_authority (Bool.eq_false_iff.mpr hta)]
    rcases s.control.mode.authority_cases with hs | hs | ⟨hs, -⟩
    · rcases h.trim hs with ht | ⟨ht, hzero⟩
      · cases hm : t.control.mode <;> simp_all [Mode.isTrim, Mode.hasAuthority]
      · exact ⟨ht, hzero, fun hs' => by simp [hs', Mode.isTrim] at hs⟩
    · rcases h.test hs with ht | ⟨ht, hr⟩
      · simp [ht, Mode.hasAuthority] at hta
      · exact ⟨ht, h.zeroed (by rw [hs]; rfl) (hz hs), fun _ => hr⟩
    · simp [hs] at ha

/-! ### DRIVE_LINK at an evaluation -/

section Link

variable {s : State} (order : List EvalWork)

/-- A lapse is counted once, unless detect-masked. -/
theorem State.runWorks_counts_lapse (h : s.Lapsing) (hmask : s.fault.detectMask.getLsbD 2 = false) :
    (s.runWorks order).fault.status.getLsbD 2 = true
      ∧ (s.runWorks order).fault.counts[2] = min 255 (s.fault.counts[2] + 1) := by
  refine State.runWorks_around_stale (P := (·.fault.SparesLink s.fault))
    (R := fun t => t.fault.status.getLsbD 2 = true ∧ t.fault.counts[2] = min 255 (s.fault.counts[2] + 1)) order
    (.refl _) (fun v t hv ht => (t.sparesLink_work _ hv).trans ht) (fun t ht hd => ?_) fun v t hv ht => ?_
  · have hlive : holds t.fault.detectMask staleLinkNotice.kind = false := by rw [ht.detectMask]; exact hmask
    obtain ⟨hstatus, hcounts⟩ := t.takeNotice_recorded hlive
    rw [State.staleNotice_lapsing h hd, hstatus, hcounts, ← ht.count]
    simp [FaultUnit.raised, Kind.number]
  · have hkeep := t.sparesLink_work s.control.mode hv
    rwa [hkeep.status, hkeep.count]

/-- Without a lapse, or detect-masked, DRIVE_LINK is not counted. -/
theorem State.runWorks_counts_no_lapse (h : ¬ s.Lapsing ∨ s.fault.masked .driveLink) :
    (s.runWorks order).fault.counts[2] = s.fault.counts[2] := by
  refine State.runWorks_around_stale (P := (·.fault.SparesLink s.fault))
    (R := fun t => t.fault.counts[2] = s.fault.counts[2]) order (.refl _)
    (fun v t hv ht => (t.sparesLink_work _ hv).trans ht) (fun t ht hd => ?_) fun v t hv ht => ?_
  · by_cases hl : s.Lapsing
    · have hmask : holds t.fault.detectMask staleLinkNotice.kind = true := by
        rw [ht.detectMask]
        exact h.resolve_left (not_not_intro hl)
      rw [State.staleNotice_lapsing hl hd, State.takeNotice_masked t staleLinkNotice hmask]
      exact ht.count
    · rw [State.staleNotice_not_lapsing hl hd]
      exact ht.count
  · rw [(t.sparesLink_work s.control.mode hv).count, ht]

/-- In its TRIP class a lapse ends authority and test in REPORT (R110). -/
theorem State.runWorks_drops_lapse (h : s.Lapsing) (htrip : s.fault.trips .driveLink)
    (hz : s.control.mode = .test → s.Zeroed) :
    (s.runWorks order).control.mode = .report ∧ (s.runWorks order).Zeroed
      ∧ (s.control.mode = .test → (s.runWorks order).excitation.running = false) := by
  refine State.runWorks_around_stale (P := fun t => t.Moves s ∧ t.fault.SparesLink s.fault)
    (R := fun t => t.control.mode = .report ∧ t.Zeroed ∧ (s.control.mode = .test → t.excitation.running = false))
    order ⟨.refl s, .refl _⟩ ?_ ?_ ?_
  · exact fun v t hv ⟨hm, hf⟩ => ⟨(t.moves_work _ v).trans hm, (t.sparesLink_work _ hv).trans hf⟩
  · rintro t ⟨hm, hf⟩ hd
    have htrip' : t.fault.trips staleLinkNotice.kind := by
      rw [FaultUnit.trips, hf.classMap, hf.detectMask]
      exact htrip
    rw [State.staleNotice_lapsing h hd, State.takeNotice_trip t staleLinkNotice htrip']
    obtain ⟨-, -, ha⟩ := h
    refine State.Moves.dropped (State.Moves.trans ?_ hm) ha hz
    exact .of_eq ⟨rfl, rfl, rfl, rfl⟩
  · rintro v t - ⟨hm, hz, hr⟩
    have hmove := t.moves_work s.control.mode v
    obtain ⟨hm', -, hr'⟩ := hmove.still (by rw [hm]; rfl)
    exact ⟨hm'.trans hm, hmove.zeroed (by rw [hm]; rfl) hz, fun ht => hr'.trans (hr ht)⟩

/-- In its TRIP class, with the other kinds of an evaluation in WARN class, a lapse fills a record that is not
locked. -/
theorem State.runWorks_records_lapse (h : s.Lapsing) (htrip : s.fault.trips .driveLink)
    (hwarn : s.fault.classMap &&& 0x3780 = 0) (hopen : ∀ c, s.fault.firstTrip ≠ .locked c) :
    ∃ c, (s.runWorks order).fault.firstTrip = .locked c ∧ c.kind = .driveLink ∧ c.source = 0 ∧ c.cause = some .stale
      ∧ c.evaluation = s.control.evaluations ∧ c.torque = s.drive.held := by
  have ⟨hcount, _⟩ := h
  obtain ⟨-, -, -, hempty⟩ := s.drive.closed_spec
  obtain ⟨hheld, -⟩ := hempty hcount
  have hfound := State.runWorks_around_stale
    (P := fun t => t.fault.SparesLink s.fault ∧ t.control.evaluations = s.control.evaluations)
    (R := fun t => t.fault.classMap = s.fault.classMap
      ∧ ∃ u : State, t.fault.firstTrip = .locked (u.tripContents staleLinkNotice)
        ∧ u.control.evaluations = s.control.evaluations ∧ u.drive.held = s.drive.held) (s := s)
    order ⟨.refl _, rfl⟩ ?_ ?_ ?_
  · obtain ⟨-, u, hu, he, hq⟩ := hfound
    exact ⟨_, hu, rfl, rfl, rfl, he, hq⟩
  · exact fun v t hv ⟨hf, he⟩ => ⟨(t.sparesLink_work _ hv).trans hf, by simpa using he⟩
  · rintro t ⟨hf, he⟩ hd
    have htrip' : t.fault.trips staleLinkNotice.kind := by
      rw [FaultUnit.trips, hf.classMap, hf.detectMask]
      exact htrip
    have hopen' : ∀ c, t.fault.firstTrip ≠ .locked c := by rwa [hf.record hwarn]
    rw [State.staleNotice_lapsing h hd]
    refine ⟨by simpa using hf.classMap, t, ?_, he, ?_⟩
    · simp [State.takeNotice_trip t staleLinkNotice htrip', FaultUnit.tripped_firstTrip _ hopen']
    · rw [show t.drive.held = s.drive.closed.held by rw [hd], hheld]
  · rintro v t hv ⟨hc, u, hu, he⟩
    have hkeep := t.sparesLink_work s.control.mode hv
    exact ⟨hkeep.classMap.trans hc, u, (hkeep.record (by rwa [hc])).trans hu, he⟩

end Link

end Sys2Proof.Machine
end

section
/-! SUPPORT. An evaluation as a whole: its works, the report slot, the events before the frame, and the REFERENCE frame
(R22 to R27, R41, R66, R95, R108, R136). -/

namespace Sys2Proof.Machine

/-! ### The works and the report slot -/

/-- What the works of an evaluation leave as it was, and the counter that has moved on (R95). -/
theorem State.runWorks_frame (s : State) (order : List EvalWork) :
    (s.runWorks order).tracker = s.tracker ∧ (s.runWorks order).startUnit = s.startUnit
      ∧ (s.runWorks order).handler = s.handler ∧ (s.runWorks order).clock = s.clock
      ∧ (s.runWorks order).control.evaluations = s.control.evaluations :=
  State.runWorks_induct (P := fun t => t.tracker = s.tracker ∧ t.startUnit = s.startUnit ∧ t.handler = s.handler
    ∧ t.clock = s.clock ∧ t.control.evaluations = s.control.evaluations) order ⟨rfl, rfl, rfl, rfl, rfl⟩
    fun w t ht => by simpa using ht

/-- Of the line, the slot's filling moves the transmitter, the slot and the refill mark alone (R41). -/
@[simp] theorem State.fillSlot_receiver (s : State) :
    s.fillSlot.line.attempt = s.line.attempt ∧ s.fillSlot.line.rx = s.line.rx := by
  unfold State.fillSlot
  split <;> simp

/-- In REPORT, TRIM and TEST the slot is filled, the refill mark set during an attempt, and between attempts the
transmitter defers (R37, R41). -/
theorem State.fillSlot_reports {s : State} (h : s.control.mode.reports = true) :
    s.fillSlot.line.reportDue = true ∧ s.fillSlot.line.refill = (s.line.refill || s.line.attempt.isSome)
      ∧ (s.fillSlot.line.attempt = none → s.fillSlot.line.tx = .deferring) := by
  have hon : s.control.mode.lineOn = true := by cases hm : s.control.mode <;> simp_all [Mode.reports, Mode.lineOn]
  rw [State.fillSlot, if_pos h]
  refine ⟨by simp, by simp, fun hn => ?_⟩
  rw [State.settleTx_line_attempt] at hn
  unfold State.settleTx
  rw [hn]
  simp [hon, State.somethingToSend]

/-- In the other modes the slot is left as it is. -/
theorem State.fillSlot_silent {s : State} (h : s.control.mode.reports = false) : s.fillSlot = s := by
  rw [State.fillSlot, if_neg (by simp [h])]

/-- The works leave the mode, or end TRIM or TEST, or pass from one phase of TRIM to another. -/
theorem State.Moves.mode {s t : State} (h : t.Moves s) :
    t.control.mode = s.control.mode ∨ (s.control.mode.reports = true ∧ t.control.mode.reports = true) := by
  rcases s.control.mode.authority_cases with hs | hs | ⟨hs, -⟩
  · refine .inr ⟨by cases hm : s.control.mode <;> simp_all [Mode.isTrim, Mode.reports], ?_⟩
    rcases h.trim hs with ht | ⟨ht, -⟩
    · cases hm : t.control.mode <;> simp_all [Mode.isTrim, Mode.reports]
    · rw [ht]; rfl
  · refine .inr ⟨by rw [hs]; rfl, ?_⟩
    rcases h.test hs with ht | ⟨ht, -⟩ <;> rw [ht] <;> rfl
  · exact .inl (h.still hs).1

/-- Outside TRIM the applied trim is left as it is (R105). -/
theorem State.applyTrim_outside {s : State} (h : s.control.mode.isTrim = false) : s.applyTrim = s := by
  rw [State.applyTrim, if_neg (by simp [h])]

/-- A torque mean of frames within ±30000 is within ±30000 (R22). -/
theorem State.DriveOk.closed_held {s : State} (h : s.DriveOk) : s.drive.closed.held.natAbs ≤ 30000 := by
  obtain ⟨-, -, -, hsum, hheld, -⟩ := h
  obtain ⟨-, -, hmean, hempty⟩ := s.drive.closed_spec
  by_cases hc : s.drive.count = 0
  · rwa [(hempty hc).1]
  · rw [(hmean (by omega)).1, Int.natAbs_tdiv, Int.natAbs_natCast]
    exact Nat.div_le_of_le_mul (by rwa [Nat.mul_comm] at hsum)

/-- Outside TRIM authority count, applied trim and integrator are 0 (R93, R105). -/
theorem State.AuthorityOk.zeroed {s : State} (h : s.AuthorityOk) (hm : s.control.mode.isTrim = false) : s.Zeroed := by
  obtain ⟨-, -, -, hout, -⟩ := h
  exact hout hm

/-- Settles O19: the close among the works, DRIVE_LINK by whether the stale run lapses, and what every work leaves. -/
theorem evaluationClosesAccumulator : Obligations.EvaluationClosesAccumulator := by
  intro order s hm lapsing
  refine ⟨_, execEvaluation_work order s hm, ?_⟩
  have hnext : s.countEvaluation.control.evaluations = s.control.evaluations + 1 := rfl
  have hcounts := s.countEvaluation.runWorks_counts_lapse order
  have hkeeps := s.countEvaluation.runWorks_counts_no_lapse order
  have hdrops := s.countEvaluation.runWorks_drops_lapse order
  have hrecords := s.countEvaluation.runWorks_records_lapse order
  obtain ⟨htracker, hunit, hhandler, hclock, hcount⟩ := s.countEvaluation.runWorks_frame order
  have hmove := s.countEvaluation.moves_runWorks order
  have hdrive := s.countEvaluation.runWorks_drive order
  rw [State.evaluated]
  generalize s.countEvaluation.runWorks order = u at *
  obtain ⟨hsum, hzero, hmean, hempty⟩ := s.drive.closed_spec
  obtain ⟨fsum, fcount, fheld, frun, fopened, fready, fdiscards, ftaken⟩ :
      u.drive.sum = s.drive.closed.sum ∧ u.drive.count = s.drive.closed.count ∧ u.drive.held = s.drive.closed.held
        ∧ u.drive.staleRun = s.drive.closed.staleRun ∧ u.drive.opened = s.drive.closed.opened
        ∧ u.drive.ready = s.drive.closed.ready ∧ u.drive.discards = s.drive.closed.discards
        ∧ u.drive.framesTaken = s.drive.closed.framesTaken := by
    rw [hdrive]
    exact ⟨rfl, rfl, rfl, rfl, rfl, rfl, rfl, rfl⟩
  obtain ⟨lstep, lrun, lseq, lgood, lbad, lsent, lattempt, lrx⟩ :
      u.line.step = s.line.step ∧ u.line.badRun = s.line.badRun ∧ u.line.sequence = s.line.sequence
        ∧ u.line.goodFrames = s.line.goodFrames ∧ u.line.badFrames = s.line.badFrames
        ∧ u.line.reportsSent = s.line.reportsSent ∧ u.line.attempt = s.line.attempt ∧ u.line.rx = s.line.rx := by
    rw [hmove.line]
    exact ⟨rfl, rfl, rfl, rfl, rfl, rfl, rfl, rfl⟩
  refine ⟨by simpa [hnext] using hcount, by simp [fsum, hsum], by simp [fcount, hzero], fun h1 => ?_, fun h0 => ?_,
    fun h => ?_, fun hl hmask => ?_, fun h => ?_, fun hl htrip hauth => ?_, ?_⟩
  · simpa [fheld, frun] using hmean h1
  · simpa [fheld, frun] using hempty h0
  · simpa [fheld] using h.closed_held
  · simpa using hcounts hl hmask
  · simpa using hkeeps h
  · have hz : s.control.mode = .test → s.Zeroed := fun ht => hauth.zeroed (by rw [ht]; rfl)
    obtain ⟨hreport, ⟨ha, hy, hu⟩, hrun⟩ := hdrops hl htrip hz
    rw [State.applyTrim_outside (by rw [hreport]; rfl)]
    refine ⟨by simpa using hreport, by simpa using ha, by simpa using hy, by simpa using hu,
      fun ht => by simpa using hrun ht, fun hwarn hopen => ?_⟩
    simpa [hnext] using hrecords hl htrip hwarn hopen
  · simp [htracker, hunit, hhandler, hclock, fopened, fready, fdiscards, ftaken, lstep, lrun, lseq,
      lgood, lbad, lsent, lattempt, lrx]

/-! ### The events before the frame -/

/-- A late event does what its own command does, but for an attempt that R136 rules out. -/
theorem exec_lateCommand {s : State} {e : LateEvent} (h : e = .attempt → s.offsetUnsent = false) :
    exec (LateEvent.command e) s = .next (s.takeLate e) := by
  have := s.takeLate_command e h
  cases e <;> exact this

/-- The events before the frame, told by the commands whose effects they have (R108, R136). -/
theorem State.throughLate_eq (s : State) (late : List LateEvent) :
    s.throughLate late = late.foldl State.takeLate s := by
  induction late generalizing s with
  | nil => rfl
  | cons e late ih =>
    rw [State.throughLate, ih, List.foldl_cons]
    congr 1
    split
    next h =>
      obtain ⟨rfl, hr, ho⟩ := h
      exact (s.takeLate_attempt_unsent (by simp [State.offsetUnsent, hr, ho])).symm
    next h =>
      have hexec : exec (LateEvent.command e) s = .next (s.takeLate e) := exec_lateCommand fun he => by
        by_contra hu
        simp only [State.offsetUnsent, Bool.not_eq_false, Bool.and_eq_true, decide_eq_true_eq] at hu
        exact h ⟨he, hu⟩
      rw [State.through, hexec]
      rfl

/-! ### The REFERENCE frame (R25, R26, R194) -/

/-- The characters of a REFERENCE frame. -/
theorem referenceChars_eq (word : Int) (active : Bool) :
    referenceChars word active =
      [0xB2, (BitVec.ofInt 16 word).extractLsb' 8 8, (BitVec.ofInt 16 word).extractLsb' 0 8, flagByte active,
        0xB2 + (BitVec.ofInt 16 word).extractLsb' 8 8 + (BitVec.ofInt 16 word).extractLsb' 0 8 + flagByte active] := by
  have hhi : byte ((BitVec.ofInt 16 word).toNat / 256) = (BitVec.ofInt 16 word).extractLsb' 8 8 := by
    apply BitVec.eq_of_toNat_eq
    simp [byte, Nat.shiftRight_eq_div_pow]
  have hlo : byte (BitVec.ofInt 16 word).toNat = (BitVec.ofInt 16 word).extractLsb' 0 8 := by
    apply BitVec.eq_of_toNat_eq
    simp [byte]
  rw [referenceChars, hhi, hlo]
  rfl

/-- In a mode in which the line works, the frame is formed and sent, and the one before it has been sent whole. -/
theorem State.formReference_sends {s : State} (h : s.control.mode.lineOn = true) :
    s.formReference =
      { s with drive :=
          { s.drive with
            lastWord := s.referenceWord
            sending := some (referenceChars s.referenceWord (decide (s.control.mode = .test)))
            frame := if s.drive.sending = none then s.drive.frame else s.drive.sending } } := by
  rw [State.formReference, if_pos h]
  cases hd : s.drive.sending <;> simp [DriveLink.sendOut, hd]

/-! ### The events of the peer table (R66) -/

/-- A report's frame, where it is taken: counted, and then a clash or an arrival (R35, R36). -/
theorem State.route_report (s : State) (k : BitVec 6) (p : List Byte) :
    s.route (contention 2 k) p =
      if frameStation (contention 2 k) = s.own then s.takeNotice (notice .idClash s.own)
      else s.reportArrives (frameStation (contention 2 k)) p := by
  have hclass : frameClass (contention 2 k) = 2 := by
    revert k
    decide
  rw [State.route, hclass]
  rfl

/-- What the evaluation's works and the events of the peer table within them leave of the REFERENCE output; and neither
enters START. -/
structure State.OutputFrom (t s : State) : Prop where
  lastWord : t.drive.lastWord = s.drive.lastWord
  sending : t.drive.sending = s.drive.sending
  frame : t.drive.frame = s.drive.frame
  started : t.control.mode = .start → s.control.mode = .start

theorem State.OutputFrom.refl (s : State) : s.OutputFrom s := ⟨rfl, rfl, rfl, id⟩

theorem State.OutputFrom.trans {s t u : State} (h : u.OutputFrom t) (h' : t.OutputFrom s) : u.OutputFrom s :=
  ⟨h.lastWord.trans h'.lastWord, h.sending.trans h'.sending, h.frame.trans h'.frame,
    fun hu => h'.started (h.started hu)⟩

theorem State.OutputFrom.ite {s t u : State} {c : Prop} [Decidable c] (ht : c → t.OutputFrom s)
    (hu : ¬ c → u.OutputFrom s) : (if c then t else u).OutputFrom s := by
  split
  · exact ht ‹_›
  · exact hu ‹_›

theorem State.outputFrom_judgeBad (s : State) : s.judgeBad.OutputFrom s :=
  ⟨by simp, by simp, by simp, s.follows_judgeBad.started⟩

theorem State.outputFrom_receiveReport (s : State) (m : Nat) (k : BitVec 6) (p : List Byte) :
    (s.receive m (contention 2 k) p).OutputFrom s := by
  refine .ite (fun _ => .ite (fun _ => ?_) fun _ => s.outputFrom_judgeBad) fun _ => .refl s
  have hgood : (s.countGood m).OutputFrom s := ⟨rfl, rfl, rfl, id⟩
  rw [State.route_report]
  refine State.OutputFrom.trans (.ite (fun _ => ?_) fun _ => ?_) hgood
  · exact ⟨by simp, by simp, by simp, (State.follows_takeNotice _ _).started⟩
  · exact ⟨by simp, by simp, by simp, (State.follows_reportArrives _ _ _).started⟩

theorem State.outputFrom_watchdogDue (s : State) (due : WatchdogDue) : (s.watchdogDue due).OutputFrom s := by
  unfold State.watchdogDue
  split
  · refine .ite (fun _ => State.OutputFrom.trans ?_ ⟨rfl, rfl, rfl, id⟩) fun _ => .refl s
    exact ⟨by simp, by simp, by simp, (State.follows_expire _ _).started⟩
  · exact .refl s

theorem State.outputFrom_takeTableEvent (s : State) (e : TableEvent) : (s.takeTableEvent e).OutputFrom s := by
  cases e with
  | report m k p => exact s.outputFrom_receiveReport m k p
  | badFrame => exact .ite (fun _ => s.outputFrom_judgeBad) fun _ => .refl s
  | faultyBitAbort =>
    refine .ite (fun _ => (State.outputFrom_judgeBad _).trans ?_) fun _ => .refl s
    exact ⟨by simp, by simp, by simp, (s.follows_endAttempt _).started⟩
  | watchdogExpiry due => exact s.outputFrom_watchdogDue due

theorem State.outputFrom_work (began : Mode) (s : State) (w : EvalWork) : (s.work began w).OutputFrom s := by
  by_cases hw : w = .accumulatorClose
  · subst hw
    obtain ⟨-, -, -, hword, hsending, hframe, -⟩ := s.drive.closed_frame
    exact ⟨hword, hsending, hframe, id⟩
  · have hd := s.work_drive began hw
    exact ⟨by rw [hd], by rw [hd], by rw [hd], (s.follows_work began hw).started⟩

theorem State.outputFrom_workSeeing (began : Mode) (s : State) (seen : List (Nat × PeerEntry)) (w : EvalWork) :
    (State.workSeeing began s seen w).OutputFrom s := by
  refine .ite (fun _ => ?_) fun _ => s.outputFrom_work began w
  obtain ⟨hword, hsending, hframe, hstart⟩ := State.outputFrom_work began { s with peers := s.tableSeen seen } w
  exact ⟨hword, hsending, hframe, hstart⟩

theorem State.outputFrom_evaluated (s : State) (order : List EvalWork) (during : List Interruption) :
    (s.evaluated order during).OutputFrom s := by
  have hcount : s.countEvaluation.OutputFrom s := ⟨rfl, rfl, rfl, id⟩
  have hworks : (s.countEvaluation.runWorks order during).OutputFrom s :=
    State.runWorks_during_induct (P := (·.OutputFrom s)) order during hcount
      (fun e t ht => (t.outputFrom_takeTableEvent e).trans ht)
      fun w seen t ht => (t.outputFrom_workSeeing _ seen w).trans ht
  refine State.OutputFrom.trans ?_ hworks
  exact ⟨by simp [State.evaluated], by simp [State.evaluated], by simp [State.evaluated], by simp [State.evaluated]⟩

/-! ### The statement -/

/-- With no event within an evaluation, its work keeps the line's working and LISTEN, where the line stands still; in
the other modes the refill mark is set during an attempt (R41). -/
theorem State.evaluated_line {s : State} (h : s.control.mode.lineOn = true) (order : List EvalWork) :
    (s.evaluated order).control.mode.lineOn = true
      ∧ ((s.evaluated order).control.mode = .listen ↔ s.control.mode = .listen)
      ∧ (s.control.mode = .listen → (s.evaluated order).line = s.line)
      ∧ (s.control.mode ≠ .listen → (s.evaluated order).line.refill = (s.line.refill || s.line.attempt.isSome)) := by
  have hmove : (s.countEvaluation.runWorks order).Moves s :=
    (s.countEvaluation.moves_runWorks order).trans ⟨rfl, fun _ => ⟨rfl, rfl, rfl⟩, .inl, .inl, fun _ hz => hz⟩
  rw [State.evaluated]
  generalize s.countEvaluation.runWorks order = u at hmove
  have hmode : (u.applyTrim.fillSlot).control.mode = u.control.mode := by simp
  rw [hmode]
  refine ⟨?_, ?_, fun hl => ?_, fun hl => ?_⟩
  · rcases hmove.mode with hm | ⟨-, hm⟩
    · rw [hm, h]
    · cases hu : u.control.mode <;> simp_all [Mode.reports, Mode.lineOn]
  · rcases hmove.mode with hm | ⟨hs, hu⟩
    · rw [hm]
    · refine ⟨fun e => ?_, fun e => ?_⟩
      · simp [e, Mode.reports] at hu
      · simp [e, Mode.reports] at hs
  · obtain ⟨hm, hline, -⟩ := hmove.still (by rw [hl]; rfl)
    rw [State.fillSlot_silent (by simp [hm, hl, Mode.reports]), State.applyTrim_line, hline]
  · have hreports : u.applyTrim.control.mode.reports = true := by
      rw [State.applyTrim_control_mode]
      rcases hmove.mode with hm | ⟨-, hm⟩
      · rw [hm]
        cases hs : s.control.mode <;> simp_all [Mode.reports, Mode.lineOn]
      · exact hm
    obtain ⟨-, hrefill, -⟩ := State.fillSlot_reports hreports
    rw [hrefill, State.applyTrim_line, hmove.line]

/-- Settles O20: the works with what falls within them, then the late events by their commands, then the frame by the
mode that they leave. -/
theorem evaluationSendsReference : Obligations.EvaluationSendsReference := by
  intro order during s hon sent
  have hm : s.control.mode ≠ .start := by
    intro e
    simp [e, Mode.lineOn] at hon
  obtain ⟨hword, hsending, hframe, hstart⟩ := s.outputFrom_evaluated order during
  refine ⟨s.evaluated order during, fun late => ?_, fun e => hm (hstart e), hword, hsending, hframe, fun hr => ?_,
    fun hd => ?_⟩
  · have hform : ∀ u : State, u.formReference = sent u := by
      intro u
      by_cases hu : u.control.mode = .hold ∨ u.control.mode = .start
      · have hoff : u.control.mode.lineOn = false := by rcases hu with hu | hu <;> rw [hu] <;> rfl
        rw [State.formReference_off hoff]
        exact (if_pos hu).symm
      · have hlive : u.control.mode.lineOn = true := by
          cases hc : u.control.mode <;> simp_all [Mode.lineOn]
        rw [State.formReference_sends hlive, referenceChars_eq]
        refine Eq.trans ?_ (if_neg hu).symm
        cases hc : u.control.mode <;> simp only [State.referenceWord, hc] <;> rfl
    rw [State.throughLate_eq, ← hform]
    simp only [exec, execEvaluation, if_neg hm]
  · have hmode : (s.countEvaluation.runWorks order during).applyTrim.control.mode.reports = true := by
      simpa [State.evaluated] using hr
    obtain ⟨hdue, -, htx⟩ := State.fillSlot_reports hmode
    exact ⟨hdue, htx⟩
  · subst hd
    exact State.evaluated_line hon order

end Sys2Proof.Machine
end

section
/-! SUPPORT. The laws of the section line over every operation outside the line's own commands (R29, R31, R33, R34, R37,
R40, R41). -/

namespace Sys2Proof.Machine

/-- The laws of the line but for the transmitter between attempts, which follows them wherever it is settled (R37). -/
structure State.LineSound (s : State) : Prop where
  receiver : s.control.mode.lineOn = true ↔ s.line.rx ≠ .stopped
  attempt : ∀ a ∈ s.line.attempt,
    s.control.mode.lineOn = true ∧ (s.line.rx = .receiving ∨ s.line.rx = .waitIdle)
      ∧ (s.line.tx = .contending ∨ s.line.tx = .sending) ∧ (a.source = .answer → s.handler.queue ≠ [])
      ∧ (a.source = .report → s.line.reportDue = true ∨ (s.control.mode = .listen ∧ s.line.rx = .waitIdle))
  slot : s.control.mode.reports = false → s.line.reportDue = false ∧ s.line.refill = false
  badFrames : s.line.badFrames ≤ Config.counter16Max
  inStep : s.line.step = .inStep → s.line.badRun < s.image.badThreshold
  outOfStep : s.line.step = .outOfStep → s.line.badRun = s.image.badThreshold

theorem State.LineOk.sound {s : State} (h : s.LineOk) : s.LineSound := by
  obtain ⟨hrx, -, hatt, hslot, hbad, hin, hout⟩ := h
  exact ⟨hrx, hatt, hslot, hbad, hin, hout⟩

/-- Settling the transmitter is what the laws lack. -/
theorem State.LineSound.settleTx {s : State} (h : s.LineSound) : s.settleTx.LineOk := by
  obtain ⟨hrx, hatt, hslot, hbad, hin, hout⟩ := h
  unfold State.settleTx
  split
  next a ha => exact ⟨hrx, by simp [ha], hatt, hslot, hbad, hin, hout⟩
  next ha => exact ⟨hrx, by simp [State.somethingToSend], by simp [ha], hslot, hbad, hin, hout⟩

/-- What touches neither the line, nor the mode, the answer queue or the start image, keeps the laws of the line. -/
theorem State.LineOk.of_eq {s t : State} (h : s.LineOk) (e : t.line = s.line ∧ t.control.mode = s.control.mode
    ∧ t.handler.queue = s.handler.queue ∧ t.startUnit = s.startUnit := by simp) : t.LineOk := by
  obtain ⟨hl, hm, hq, hu⟩ := e
  unfold State.LineOk State.somethingToSend State.image at h ⊢
  rwa [hl, hm, hq, hu]

theorem State.LineOk.ite {t u : State} {c : Prop} [Decidable c] (ht : c → t.LineOk) (hu : ¬ c → u.LineOk) :
    (if c then t else u).LineOk := by
  split
  · exact ht ‹_›
  · exact hu ‹_›

/-! ### Modes and the trip drop -/

/-- The frame of every report attempt is still due (R41, R43). -/
def State.ReportDue (s : State) : Prop := ∀ a ∈ s.line.attempt, a.source = .report → s.line.reportDue = true

/-- Outside LISTEN the report of an attempt is due. -/
theorem State.LineOk.reportDue {s : State} (h : s.LineOk) (hm : s.control.mode ≠ .listen) : s.ReportDue := by
  intro a ha hr
  obtain ⟨-, -, -, -, hdue⟩ := h.sound.attempt a ha
  exact (hdue hr).resolve_right fun ⟨hl, _⟩ => hm hl

/-- A change between modes in which the line works; an attempt that outlives entry to LISTEN has its frame taken
(R41). -/
theorem State.LineOk.changeMode {s : State} (h : s.LineOk) (hon : s.control.mode.lineOn = true) (hdue : s.ReportDue)
    {m : Mode} (hm : m.lineOn = true) (hrx : m = .listen → s.line.rx = .waitIdle) : (s.changeMode m).LineOk := by
  obtain ⟨hrec, hatt, -, hbad, hin, hout⟩ := h.sound
  refine State.LineSound.settleTx ?_
  by_cases hl : m = .listen
  · subst hl
    refine ⟨?_, ?_, fun _ => ⟨rfl, rfl⟩, hbad, hin, hout⟩
    · exact ⟨fun _ => hrec.mp hon, fun _ => rfl⟩
    · intro a ha
      obtain ⟨-, hr, ht, hq, -⟩ := hatt a ha
      exact ⟨rfl, hr, ht, hq, fun _ => .inr ⟨rfl, hrx rfl⟩⟩
  · have hline : s.line.onMode m = s.line := by cases m <;> simp_all [Line.onMode, Mode.lineOn]
    have hreports : m.reports = true := by cases m <;> simp_all [Mode.reports, Mode.lineOn]
    rw [hline]
    refine ⟨?_, ?_, ?_, hbad, hin, hout⟩
    · exact ⟨fun _ => hrec.mp hon, fun _ => hm⟩
    · intro a ha
      obtain ⟨-, hr, ht, hq, -⟩ := hatt a ha
      exact ⟨hm, hr, ht, hq, fun hsrc => .inl (hdue a ha hsrc)⟩
    · simp [hreports]

/-- Entry to HOLD stops the line (R29, R97). -/
theorem State.LineOk.enterHold {s : State} (h : s.LineOk) : (s.changeMode .hold).LineOk := by
  obtain ⟨-, -, -, hbad, hin, hout⟩ := h.sound
  refine State.LineSound.settleTx ⟨?_, ?_, fun _ => ⟨rfl, rfl⟩, hbad, hin, hout⟩
  · simp [Line.onMode, Mode.lineOn]
  · simp [Line.onMode]

/-- TRIM or TEST left for REPORT or HOLD. -/
theorem State.LineOk.leaveAuthority {s : State} (h : s.LineOk) (ha : s.control.mode.hasAuthority = true)
    (toHold : Bool) : (s.changeMode (if toHold then .hold else .report)).LineOk := by
  cases toHold with
  | true => exact h.enterHold
  | false =>
    obtain ⟨hon, -⟩ := Mode.lineOn_of_authority ha
    exact h.changeMode hon (h.reportDue fun e => by simp [e, Mode.hasAuthority] at ha) rfl (by simp)

theorem State.LineOk.changePhase {s : State} (h : s.LineOk) (p : Phase) (ht : s.control.mode.isTrim = true) :
    (s.changePhase p).LineOk := by
  have hon : s.control.mode.lineOn = true := by cases hm : s.control.mode <;> simp_all [Mode.isTrim, Mode.lineOn]
  have hdue := h.reportDue fun e => by simp [e, Mode.isTrim] at ht
  obtain ⟨hrec, htx, hatt, hslot, hrest⟩ := h
  refine ⟨?_, ?_, ?_, ?_, hrest⟩
  · exact ⟨fun _ => hrec.mp hon, fun _ => rfl⟩
  · intro hn
    exact (htx hn).trans (by rw [hon]; rfl)
  · intro a ha
    obtain ⟨-, hrx, ht, hq, -⟩ := hatt a ha
    exact ⟨rfl, hrx, ht, hq, fun hr => .inl (hdue a ha hr)⟩
  · exact fun hn => absurd hn (by simp [Mode.reports])

theorem State.LineOk.tripDrop {s : State} (h : s.LineOk) (toHold : Bool) : (s.tripDrop toHold).LineOk := by
  have hzero : s.zeroAuthority.LineOk := h.of_eq
  have hkeep : (if toHold then s.toHold else s).LineOk :=
    .ite (fun _ => State.LineOk.enterHold h.of_eq) fun _ => h
  unfold State.tripDrop
  split
  next hm => exact hzero.leaveAuthority (by simp [hm, Mode.hasAuthority]) toHold
  next hm =>
    have hend : (s.zeroAuthority.endTest .aborted).LineOk := hzero.of_eq
    exact hend.leaveAuthority (by simp [hm, Mode.hasAuthority]) toHold
  next => exact hkeep
  next => exact hkeep
  next => exact hkeep
  next => exact h

/-! ### Notices -/

theorem State.LineOk.takeNotices {s : State} (h : s.LineOk) (ns : List Notice) : (s.takeNotices ns).LineOk := by
  have hr : (s.recordNotices ns).LineOk := h.of_eq
  exact .ite (fun _ => hr.tripDrop _) fun _ => hr

theorem State.LineOk.takeNotice {s : State} (h : s.LineOk) (n : Notice) : (s.takeNotice n).LineOk := h.takeNotices [n]

/-! ### The coupling observer and the peer table -/

theorem State.LineOk.giveVerdict {s : State} (h : s.LineOk) (k : Nat) : (s.giveVerdict k).LineOk := by
  have hp : (s.setPeer k { s.peer k with verdict := some (s.peer k).judged, marker := false }).LineOk :=
    h.of_eq
  exact .ite (fun _ => hp.takeNotice _) fun _ => hp

theorem State.LineOk.levelChange {s : State} (h : s.LineOk) (k : Nat) (a b : Level) : (s.levelChange k a b).LineOk :=
  h.of_eq

theorem State.LineOk.testStart {s : State} (h : s.LineOk) (k : Nat) (l : Level) : (s.testStart k l).LineOk := by
  have hfirst : (if s.observation.finalFor k then s.emptySlot.giveVerdict k else s).LineOk :=
    .ite (fun _ => State.LineOk.giveVerdict h.of_eq k) fun _ => h
  exact State.LineOk.levelChange hfirst.of_eq k _ _

theorem State.LineOk.testEnd {s : State} (h : s.LineOk) (k : Nat) : (s.testEnd k).LineOk := by
  unfold State.testEnd
  split
  · exact .ite (fun _ => h.of_eq) fun _ => h.giveVerdict k
  · refine .ite (fun _ => State.LineOk.giveVerdict h.of_eq k) fun _ => h.giveVerdict k
  · exact h.giveVerdict k

theorem State.LineOk.observeUpdate {s : State} (h : s.LineOk) (k : Nat) (previous : Option Contents)
    (now : Contents) : (s.observeUpdate k previous now).LineOk := by
  unfold State.observeUpdate
  split
  · exact h
  · split
    · exact .ite (fun _ => h.levelChange k _ _) fun _ => h
    · exact .ite (fun _ => h.testEnd k) fun _ => h
    · exact h.testStart k _
    · exact h

theorem State.LineOk.observeDemotion {s : State} (h : s.LineOk) (d : Demotion) : (s.observeDemotion d).LineOk :=
  h.of_eq

theorem State.LineOk.observe {s : State} (h : s.LineOk) : s.observe.LineOk := by
  unfold State.observe
  split
  · exact h
  · exact .ite (fun _ => h.of_eq) fun _ => h.of_eq
  · exact .ite (fun _ => h.of_eq) fun _ => .ite (fun _ => h.of_eq) fun _ => h.of_eq
  · exact .ite (fun _ => h.of_eq) fun _ => h.of_eq
  · exact State.LineOk.giveVerdict h.of_eq _
  · exact State.LineOk.giveVerdict h.of_eq _

theorem State.LineOk.observeTestEntry {s : State} (h : s.LineOk) : s.observeTestEntry.LineOk := by
  unfold State.observeTestEntry
  split
  · exact h
  · exact h.of_eq
  · rename_i k _ _ _ succ final _
    have he : (if succ.isSome then (s.countMissed k).countMissed k else s.countMissed k).emptySlot.LineOk := by
      refine h.of_eq ?_
      split <;> simp
    exact .ite (fun _ => he.giveVerdict k) fun _ => he

theorem State.LineOk.takeReport {s : State} (h : s.LineOk) (k : Nat) (r : Report) : (s.takeReport k r).LineOk := by
  have hp : (s.setPeer k ((s.peer k).take s.image.passThreshold s.clock r)).LineOk := h.of_eq
  refine State.LineOk.observeUpdate (.ite (fun _ => ?_) fun _ => hp) k _ _
  exact State.LineOk.observeDemotion (.ite (fun _ => hp.takeNotice _) fun _ => hp) _

theorem State.LineOk.reportArrives {s : State} (h : s.LineOk) (k : Nat) (p : List Byte) :
    (s.reportArrives k p).LineOk := by
  unfold State.reportArrives
  split
  · exact h.takeReport k _
  · exact h

theorem State.LineOk.expire {s : State} (h : s.LineOk) (k : Nat) : (s.expire k).LineOk := by
  have hp : (s.setPeer k (s.peer k).lapse).LineOk := h.of_eq
  exact State.LineOk.observeDemotion (.ite (fun _ => hp.takeNotice _) fun _ => hp) _

theorem State.LineOk.watchdogDue {s : State} (h : s.LineOk) (due : WatchdogDue) : (s.watchdogDue due).LineOk := by
  unfold State.watchdogDue
  split
  · exact .ite (fun _ => State.LineOk.expire h.of_eq _) fun _ => h
  · exact h

theorem State.LineOk.loseStep {s : State} (h : s.LineOk) : s.loseStep.LineOk := h.of_eq

/-! ### The works of an evaluation -/

theorem State.LineOk.fadeStep {s : State} (h : s.LineOk) : s.fadeStep.LineOk := by
  unfold State.fadeStep
  split
  next hm =>
    have ha : ({ s with control := { s.control with authority := s.control.authority + 1 } } : State).LineOk :=
      h.of_eq
    exact .ite (fun _ => ha.changePhase _ (by simp [hm, Mode.isTrim])) fun _ => ha
  next hm =>
    have hz : s.zeroAuthority.LineOk := h.of_eq
    exact .ite (fun _ => hz.leaveAuthority (by simp [hm, Mode.hasAuthority]) false) fun _ => h.of_eq
  next => exact h

theorem State.LineOk.runStep {s : State} (h : s.LineOk) (hm : s.control.mode = .test) (p : Pattern) :
    (s.runStep p).LineOk := by
  have hx : ({ s with excitation := (s.checkResponse p).advance p } : State).LineOk := h.of_eq
  refine .ite (fun _ => ?_) fun _ => hx
  refine State.LineOk.leaveAuthority (hx.of_eq) ?_ false
  simp [hm, Mode.hasAuthority]

theorem State.LineOk.excitationWork {s : State} (h : s.LineOk) : s.excitationWork.LineOk := by
  unfold State.excitationWork
  split
  next p hm _ =>
    have hr := h.runStep hm p
    exact .ite (fun _ => State.LineOk.takeNotice hr.of_eq _) fun _ => hr
  next => exact h

theorem State.LineOk.work {s : State} (h : s.LineOk) (began : Mode) (w : EvalWork) : (s.work began w).LineOk := by
  cases w with
  | accumulatorClose => exact show s.closeAccumulator.LineOk from h.of_eq
  | staleNotice => exact .ite (fun _ => h.takeNotice _) fun _ => h
  | fadeStep => exact h.fadeStep
  | balanceEngine =>
    exact .ite (fun _ => State.LineOk.takeNotices h.of_eq _) fun _ => h
  | drawVerifier =>
    have hd : ({ s with draw := s.verified } : State).LineOk := h.of_eq
    exact .ite (fun _ => .ite (fun _ => hd.takeNotice _) fun _ => hd) fun _ => h
  | excitationUnit => exact h.excitationWork
  | couplingObserver => exact .ite (fun _ => h.observe) fun _ => h

theorem State.LineOk.workSeeing {s : State} (h : s.LineOk) (began : Mode) (seen : List (Nat × PeerEntry))
    (w : EvalWork) : (State.workSeeing began s seen w).LineOk := by
  have htable : ({ s with peers := s.tableSeen seen } : State).LineOk := h.of_eq
  exact .ite (fun _ => (htable.work began w).of_eq) fun _ => h.work began w

/-- The slot is filled in the modes that report, where the transmitter then has something to send (R37, R41). -/
theorem State.LineOk.fillSlot {s : State} (h : s.LineOk) : s.fillSlot.LineOk := by
  refine .ite (fun hr => State.LineSound.settleTx ?_) fun _ => h
  obtain ⟨hrec, hatt, -, hbad, hin, hout⟩ := h.sound
  refine ⟨hrec, fun a ha => ?_, fun hn => ?_, hbad, hin, hout⟩
  · obtain ⟨hon, hrx, htx, hq, -⟩ := hatt a ha
    exact ⟨hon, hrx, htx, hq, fun _ => .inl rfl⟩
  · rw [hr] at hn
    cases hn

end Sys2Proof.Machine
end

section
/-! SUPPORT. The laws of the peer table and of the observation slot over every operation on them (R47 to R64, R145 to
R156). -/

namespace Sys2Proof.Machine

/-! ### One entry -/

/-- A change of the coupling observer's fields keeps the laws of an entry that is not ABSENT. -/
theorem PeerEntry.Ok.observed {e f : PeerEntry} {q : Nat} (h : e.Ok q) (hs : e.state ≠ .absent)
    (ht : f.table = e.table) (hn : f.seen ≤ 255 ∧ f.contrary ≤ 255 ∧ f.quiet ≤ 255 ∧ f.missed ≤ 255) : f.Ok q := by
  obtain ⟨-, hheard, hpass, hstored, hdis, -⟩ := h
  simp only [PeerEntry.table, PeerEntry.mk.injEq] at ht
  obtain ⟨h1, h2, h3, h4, h5, h6, -⟩ := ht
  obtain ⟨n1, n2, n3, n4⟩ := hn
  refine ⟨fun ha => absurd (h1 ▸ ha) hs, fun _ => ?_, h2 ▸ hpass, h4 ▸ hstored, h3 ▸ hdis, n1, n2, n3, n4⟩
  rw [h1, h2, h4, h5, h6]
  exact hheard hs

/-- A report in range taken keeps the laws of an entry (R52 to R55, R58). -/
theorem PeerEntry.Ok.take {e : PeerEntry} {q : Nat} (h : e.Ok q) (hq : 1 ≤ q) (now : Nat) {r : Report}
    (hr : r.inRange = true) : (e.take q now r).Ok q := by
  obtain ⟨-, -, -, -, hdis, htallies⟩ := h
  have hpass : 1 ≤ e.passAfter q (e.caseOf r) ∧ e.passAfter q (e.caseOf r) ≤ q := by
    cases e.caseOf r <;> simp only [PeerEntry.passAfter] <;> omega
  have hstate : (e.take q now r).state =
      if e.passAfter q (e.caseOf r) = q then .qualified else .probation := rfl
  refine ⟨fun ha => ?_, fun _ => ⟨rfl, ?_, ?_, ?_⟩, hpass.2, by simpa [PeerEntry.take] using hr, ?_, htallies⟩
  · rw [hstate] at ha
    split at ha <;> cases ha
  · rw [hstate]
    split
    next hp => exact ⟨fun _ => hp, fun _ => rfl⟩
    next hp => exact ⟨nofun, fun hc => absurd hc hp⟩
  · simp [PeerEntry.take]
    omega
  · simp [PeerEntry.take]
    omega
  · simp only [PeerEntry.take]
    split
    · exact satInc_le _ _
    · exact hdis

theorem PeerEntry.take_heard (e : PeerEntry) (q now : Nat) (r : Report) : (e.take q now r).state ≠ .absent := by
  unfold PeerEntry.take
  dsimp only
  split <;> simp

/-- A lapse keeps the laws of an entry that is not ABSENT (R59, R61). -/
theorem PeerEntry.Ok.lapse {e : PeerEntry} {q : Nat} (h : e.Ok q) (hq : 1 ≤ q) (hs : e.state ≠ .absent) :
    e.lapse.Ok q := by
  obtain ⟨-, hheard, -, hstored, hdis, htallies⟩ := h
  obtain ⟨hsome, -⟩ := hheard hs
  refine ⟨nofun, fun _ => ⟨hsome, ⟨nofun, fun hc => ?_⟩, ?_, ?_⟩, Nat.zero_le _, hstored, hdis, htallies⟩
  · have h0 : 0 = q := hc
    omega
  · simp [PeerEntry.lapse]
  · simp [PeerEntry.lapse]

theorem PeerEntry.Ok.abandon {e : PeerEntry} {q : Nat} (h : e.Ok q) (hs : e.state ≠ .absent) (c : DemotionCause) :
    (e.abandon c).Ok q := by
  unfold PeerEntry.abandon
  split
  · have ⟨_, _, _, _, _, htallies⟩ := h
    exact h.observed hs rfl htallies
  · exact h

theorem PeerEntry.Ok.loseStep {e : PeerEntry} {q : Nat} (h : e.Ok q) (hq : 1 ≤ q) : e.loseStep.Ok q := by
  unfold PeerEntry.loseStep
  split
  · exact h
  · exact (h.lapse hq ‹_›).abandon (by simp [PeerEntry.lapse]) _

theorem PeerEntry.atReset_ok (q : Nat) : PeerEntry.atReset.Ok q := by
  simp [PeerEntry.Ok, PeerEntry.atReset]

/-! ### The table -/

/-- The laws of the peer table and of the slot in a node that has once been in LISTEN, with what they need of the
settings. -/
structure State.TableOk (s : State) : Prop where
  quorum : 1 ≤ s.image.passThreshold
  window : s.handler.tuning.couplingWindow ≤ 32
  entries : ∀ k, (s.peer k).Ok s.image.passThreshold
  own : s.peer s.own = PeerEntry.atReset
  slot : ∀ k ∈ s.observation.peer?, (s.peer k).marker = true ∧ s.observation.left ≤ 32

/-- The entry of station k is not ABSENT (R48). -/
def State.Hears (s : State) (k : Nat) : Prop := (s.peer k).state ≠ .absent

/-- The entry of a station outside 1..40. -/
theorem State.peer_outside (s : State) {k : Nat} (h : k ∉ stations) : s.peer k = PeerEntry.atReset := by
  have hk : ¬ (1 ≤ k ∧ k ≤ 40) := by simpa [stations, List.mem_range'_1, Nat.lt_succ_iff] using h
  unfold State.peer
  by_cases h1 : 1 ≤ k
  · simp [h1, show ¬ k - 1 < 40 by omega]
  · simp [h1]

theorem State.Hears.station {s : State} {k : Nat} (h : s.Hears k) : k ∈ stations := by
  by_contra hk
  exact h (by rw [s.peer_outside hk]; rfl)

section Table

variable {s t : State}

theorem State.TableOk.peersOk (h : s.TableOk) : s.PeersOk := by
  refine ⟨fun k _ => h.entries k, fun _ => h.own, fun k hk => ?_⟩
  obtain ⟨hm, hl⟩ := h.slot k hk
  refine ⟨?_, hm, hl⟩
  by_contra hout
  simp [s.peer_outside hout, PeerEntry.atReset] at hm

/-- What touches neither the table nor the slot, nor the settings they need, keeps their laws. -/
theorem State.TableOk.of_eq (h : s.TableOk) (e : t.peers = s.peers ∧ t.observation = s.observation
    ∧ t.handler.tuning = s.handler.tuning ∧ t.startUnit = s.startUnit := by simp) : t.TableOk := by
  obtain ⟨hp, ho, ht, hu⟩ := e
  have hi : t.image = s.image := by rw [State.image, hu]; rfl
  have hk : ∀ k, t.peer k = s.peer k := fun k => by rw [State.peer, hp]; rfl
  obtain ⟨hq, hw, he, hown, hslot⟩ := h
  refine ⟨hi ▸ hq, ht ▸ hw, fun k => ?_, ?_, ?_⟩
  · rw [hk, hi]; exact he k
  · rw [State.own, hi, hk]; exact hown
  · simpa only [ho, hk] using hslot

theorem State.TableOk.ite {c : Prop} [Decidable c] (ht : c → s.TableOk) (hu : ¬ c → t.TableOk) :
    (if c then s else t).TableOk := by
  split
  · exact ht ‹_›
  · exact hu ‹_›

/-- The own station is not heard (R47). -/
theorem State.TableOk.not_own (h : s.TableOk) {k : Nat} (hk : s.Hears k) : k ≠ s.own := by
  rintro rfl
  exact hk (by rw [h.own]; rfl)

/-- A peer whose test is followed is heard. -/
theorem State.TableOk.hears_of_marker (h : s.TableOk) {k : Nat} (hm : (s.peer k).marker = true) : s.Hears k := by
  intro ha
  obtain ⟨habsent, -⟩ := h.entries k
  simp [habsent ha, PeerEntry.atReset] at hm

theorem State.TableOk.hears_slot (h : s.TableOk) {k : Nat} (hk : s.observation.peer? = some k) : s.Hears k :=
  h.hears_of_marker (h.slot k hk).1

/-- Hearing a station is no matter of the observer's fields. -/
theorem State.Hears.sameTable {k : Nat} (h : s.Hears k) (ht : t.SameTable s) : t.Hears k := by
  have hst : (t.peer k).state = (s.peer k).state := by simpa [PeerEntry.table] using congrArg PeerEntry.state (ht k)
  unfold State.Hears
  rwa [hst]

/-- An entry of another station than the own replaced by a lawful one, which follows a test where the slot says so. -/
theorem State.TableOk.setPeer (h : s.TableOk) {k : Nat} {e : PeerEntry} (he : e.Ok s.image.passThreshold)
    (hown : k ≠ s.own) (hm : s.observation.peer? = some k → e.marker = true) : (s.setPeer k e).TableOk := by
  have hi : (s.setPeer k e).image = s.image := by rw [State.image, State.setPeer_startUnit]; rfl
  refine ⟨hi ▸ h.quorum, by simpa using h.window, fun j => ?_, ?_, fun j hj => ?_⟩
  · rw [State.peer_setPeer, hi]
    split
    · exact he
    · exact h.entries j
  · rw [State.own, hi, State.peer_setPeer, if_neg fun ⟨hk, _⟩ => hown hk.symm]
    exact h.own
  · rw [State.setPeer_observation] at hj ⊢
    obtain ⟨hmark, hleft⟩ := h.slot j hj
    refine ⟨?_, hleft⟩
    rw [State.peer_setPeer]
    split
    next hk =>
      obtain ⟨rfl, -⟩ := hk
      exact hm hj
    next => exact hmark

/-- The observer's fields of an entry that is heard, replaced. -/
theorem State.TableOk.observed (h : s.TableOk) {k : Nat} (hk : s.Hears k) {e : PeerEntry}
    (ht : e.table = (s.peer k).table) (hn : e.seen ≤ 255 ∧ e.contrary ≤ 255 ∧ e.quiet ≤ 255 ∧ e.missed ≤ 255)
    (hm : s.observation.peer? = some k → e.marker = true) : (s.setPeer k e).TableOk :=
  h.setPeer ((h.entries k).observed hk ht hn) (h.not_own hk) hm

theorem State.TableOk.tallies (h : s.TableOk) (k : Nat) : (s.peer k).seen ≤ 255 ∧ (s.peer k).contrary ≤ 255
    ∧ (s.peer k).quiet ≤ 255 ∧ (s.peer k).missed ≤ 255 := by
  obtain ⟨-, -, -, -, -, hn⟩ := h.entries k
  exact hn

/-- The slot replaced by an observation of a peer whose test is followed, within a window. -/
theorem State.TableOk.observation (h : s.TableOk) {o : Slot}
    (ho : ∀ k ∈ o.peer?, (s.peer k).marker = true ∧ o.left ≤ 32) :
    ({ s with observation := o } : State).TableOk :=
  ⟨h.quorum, h.window, h.entries, h.own, ho⟩

theorem State.TableOk.emptySlot (h : s.TableOk) : s.emptySlot.TableOk := h.observation (by simp [Slot.peer?])

theorem State.TableOk.takeNotices (h : s.TableOk) (ns : List Notice) : (s.takeNotices ns).TableOk := h.of_eq

theorem State.TableOk.takeNotice (h : s.TableOk) (n : Notice) : (s.takeNotice n).TableOk := h.of_eq

/-! ### The coupling observer -/

theorem State.TableOk.countMissed (h : s.TableOk) {k : Nat} (hk : s.Hears k) : (s.countMissed k).TableOk := by
  obtain ⟨n1, n2, n3, -⟩ := h.tallies k
  exact h.observed hk rfl ⟨n1, n2, n3, satInc_le _ _⟩ fun hs => (h.slot k hs).1

theorem State.Hears.countMissed {k j : Nat} (h : s.Hears k) : (s.countMissed j).Hears k :=
  h.sameTable (s.sameTable_countMissed j)

theorem State.Hears.emptySlot {k : Nat} (h : s.Hears k) : s.emptySlot.Hears k := h.sameTable s.sameTable_emptySlot

/-- Counting a missed observation ends no following. -/
theorem State.marker_countMissed (s : State) (j k : Nat) :
    ((s.countMissed j).peer k).marker = (s.peer k).marker := by
  rw [State.countMissed, State.peer_setPeer]
  split
  next hk => rw [hk.1]
  next => rfl

theorem State.TableOk.judge (h : s.TableOk) {k : Nat} (hk : s.Hears k) (g : Sign) (b : Int) :
    (s.judge k g b).TableOk := by
  unfold State.judge
  refine .ite (fun _ => h.countMissed hk) fun _ => h.observed hk ?_ ?_ fun hs => ?_
  · unfold tally
    split
    · rfl
    · split <;> rfl
  · obtain ⟨n1, n2, n3, n4⟩ := h.tallies k
    unfold tally
    split
    · exact ⟨satInc_le _ _, n2, n3, n4⟩
    · split
      · exact ⟨n1, satInc_le _ _, n3, n4⟩
      · exact ⟨n1, n2, satInc_le _ _, n4⟩
  · have hm := (h.slot k hs).1
    unfold tally
    split
    · exact hm
    · split <;> exact hm

theorem State.Hears.judge {k j : Nat} (h : s.Hears k) (g : Sign) (b : Int) : (s.judge j g b).Hears k :=
  h.sameTable (s.sameTable_judge j g b)

/-- A verdict ends the following, so it is given only once the slot is another's or empty (R152). -/
theorem State.TableOk.giveVerdict (h : s.TableOk) {k : Nat} (hk : s.Hears k) (hs : s.observation.peer? ≠ some k) :
    (s.giveVerdict k).TableOk := by
  have hp := h.observed (e := { s.peer k with verdict := some (s.peer k).judged, marker := false }) hk rfl
    (h.tallies k) fun e => absurd e hs
  exact .ite (fun _ => hp.takeNotice _) fun _ => hp

theorem State.TableOk.giveVerdict_emptied (h : s.TableOk) {k : Nat} (hk : s.Hears k) :
    (s.emptySlot.giveVerdict k).TableOk :=
  h.emptySlot.giveVerdict hk.emptySlot (by simp [State.emptySlot, Slot.peer?])

/-- A transition in a followed test (R147 to R149). -/
theorem State.TableOk.transition (h : s.TableOk) {k : Nat} (hm : (s.peer k).marker = true) (g : Sign) :
    (s.transition k g).TableOk := by
  have hk := h.hears_of_marker hm
  have hmissed := h.countMissed hk
  have harm : ∀ o : Slot, o.peer? = some k → o.left ≤ 32 → ∀ j ∈ o.peer?, (s.peer j).marker = true ∧ o.left ≤ 32 := by
    intro o ho hl j hj
    obtain rfl : k = j := Option.some.inj (ho.symm.trans hj)
    exact ⟨hm, hl⟩
  have hmark : ((s.countMissed k).peer k).marker = true := by rw [s.marker_countMissed, hm]
  unfold State.transition
  split
  · exact hmissed
  · split
    next => exact h.observation (harm _ rfl h.window)
    next =>
      refine .ite (fun _ => hmissed.observation fun j hj => ?_) fun _ => hmissed
      obtain rfl : k = j := Option.some.inj hj
      exact ⟨hmark, h.window⟩
    next p sg base rem final hslot =>
      refine .ite (fun he => ?_) fun _ => hmissed
      subst he
      exact h.observation (harm _ rfl (by simpa [hslot, Slot.left] using (h.slot p (by rw [hslot]; rfl)).2))
    next p sg base rem g' final hslot =>
      refine .ite (fun he => hmissed.observation fun j hj => ?_) fun _ => hmissed
      subst he
      obtain rfl : p = j := Option.some.inj hj
      exact ⟨hmark, by simpa [hslot, Slot.left] using (h.slot p (by rw [hslot]; rfl)).2⟩

theorem State.TableOk.levelChange (h : s.TableOk) {k : Nat} (hm : (s.peer k).marker = true) (a b : Level) :
    (s.levelChange k a b).TableOk := by
  unfold State.levelChange
  split
  · exact h.transition hm _
  · exact h

/-- A test start: a verdict still waiting is given, the slot emptied first (R145, R152). -/
theorem State.TableOk.testStart (h : s.TableOk) {k : Nat} (hk : s.Hears k) (l : Level) : (s.testStart k l).TableOk := by
  have hfirst : (if s.observation.finalFor k then s.emptySlot.giveVerdict k else s).TableOk :=
    .ite (fun _ => h.giveVerdict_emptied hk) fun _ => h
  have hears : (if s.observation.finalFor k then s.emptySlot.giveVerdict k else s).Hears k := by
    split
    · exact hk.emptySlot.sameTable (State.sameTable_giveVerdict _ k)
    · exact hk
  unfold State.testStart
  dsimp only
  generalize (if s.observation.finalFor k then s.emptySlot.giveVerdict k else s) = u at hfirst hears
  have hset :
      (u.setPeer k { u.peer k with marker := true, seen := 0, contrary := 0, quiet := 0, missed := 0 }).TableOk :=
    hfirst.observed hears rfl (by simp) fun _ => rfl
  refine hset.levelChange ?_ _ _
  have hrange : 1 ≤ k ∧ k ≤ 40 := by simpa [stations, List.mem_range'_1, Nat.lt_succ_iff] using hears.station
  simp [hrange]

theorem State.TableOk.testEnd (h : s.TableOk) {k : Nat} (hk : s.Hears k) : (s.testEnd k).TableOk := by
  unfold State.testEnd
  split
  next p sg base rem succ final hslot =>
    refine .ite (fun he => ?_) fun he => h.giveVerdict hk (by simpa [hslot, Slot.peer?] using he)
    obtain ⟨hm, hl⟩ := h.slot p (by rw [hslot]; rfl)
    refine h.observation fun j hj => ?_
    obtain rfl : p = j := Option.some.inj hj
    exact ⟨hm, by simpa [hslot, Slot.left] using hl⟩
  next p sg rem hslot =>
    refine .ite (fun _ => ?_) fun he => h.giveVerdict hk (by simpa [hslot, Slot.peer?] using he)
    exact (h.countMissed hk).giveVerdict_emptied hk.countMissed
  next hslot => exact h.giveVerdict hk (by simp [hslot, Slot.peer?])

theorem State.TableOk.observeUpdate (h : s.TableOk) {k : Nat} (hk : s.Hears k) (previous : Option Contents)
    (now : Contents) : (s.observeUpdate k previous now).TableOk := by
  unfold State.observeUpdate
  split
  · exact h
  · split
    · exact .ite (fun hm => h.levelChange hm _ _) fun _ => h
    · exact .ite (fun _ => h.testEnd hk) fun _ => h
    · exact h.testStart hk _
    · exact h

/-- A demotion told: the slot is emptied with the following that it stood in (R155). -/
theorem State.TableOk.observeDemotion (h : s.TableOk) (d : Demotion) : (s.observeDemotion d).TableOk := by
  unfold State.observeDemotion
  refine .ite (fun hm => ?_) fun _ => h
  have hk := h.hears_of_marker hm
  have hlawful : (s.peer d.station).abandon d.cause |>.Ok s.image.passThreshold := (h.entries _).abandon hk _
  dsimp only
  refine .ite (fun hs => ?_) fun hs => h.setPeer hlawful (h.not_own hk) fun e => absurd e (by simpa using hs)
  have hempty : (s.emptySlot.setPeer d.station ((s.peer d.station).abandon d.cause)).TableOk :=
    h.emptySlot.setPeer hlawful (h.not_own hk) (by simp [State.emptySlot, Slot.peer?])
  refine hempty.of_eq ⟨?_, Eq.symm (State.setPeer_observation s.emptySlot _ _), by simp, by simp⟩
  unfold State.setPeer
  split <;> rfl

/-- The observer's work at an evaluation (R150 to R152). -/
theorem State.TableOk.observe (h : s.TableOk) : s.observe.TableOk := by
  have hleft : ∀ {k : Nat}, s.observation.peer? = some k → s.observation.left ≤ 32 := fun hk => (h.slot _ hk).2
  have hmissed : ∀ {t : State} {k : Nat}, t.TableOk → t.Hears k → (t.countMissed k).emptySlot.TableOk :=
    fun ht hk => (ht.countMissed hk).emptySlot
  unfold State.observe
  split
  next => exact h
  next k sign rem hslot =>
    have hs : s.observation.peer? = some k := by rw [hslot]; rfl
    refine .ite (fun _ => hmissed h (h.hears_slot hs)) fun _ => h.observation fun j hj => ?_
    obtain rfl : k = j := Option.some.inj hj
    exact ⟨(h.slot k hs).1, by simpa [hslot, Slot.left] using hleft hs⟩
  next k sign base rem hslot =>
    have hs : s.observation.peer? = some k := by rw [hslot]; rfl
    have hk := h.hears_slot hs
    refine .ite (fun _ => hmissed h hk) fun _ => .ite (fun _ => (h.judge hk _ _).emptySlot) fun _ =>
      h.observation fun j hj => ?_
    obtain rfl : k = j := Option.some.inj hj
    have hl := hleft hs
    rw [hslot] at hl
    exact ⟨(h.slot k hs).1, (Nat.sub_le rem 1).trans hl⟩
  next k sign base rem next hslot =>
    have hs : s.observation.peer? = some k := by rw [hslot]; rfl
    have hk := h.hears_slot hs
    have hj := h.judge hk sign base
    refine .ite (fun _ => hmissed hj (hk.judge _ _)) fun _ => hj.observation fun j he => ?_
    obtain rfl : k = j := Option.some.inj he
    exact ⟨(hj.slot k (by simpa using hs)).1, h.window⟩
  next k sign base rem hslot =>
    have hk := h.hears_slot (k := k) (by rw [hslot]; rfl)
    exact (h.judge hk sign base).giveVerdict_emptied (hk.judge _ _)
  next k sign base rem succ hslot =>
    have hk := h.hears_slot (k := k) (by rw [hslot]; rfl)
    exact ((h.judge hk sign base).countMissed (hk.judge _ _)).giveVerdict_emptied (hk.judge _ _).countMissed

/-- Entry to TEST empties the slot (R156). -/
theorem State.TableOk.observeTestEntry (h : s.TableOk) : s.observeTestEntry.TableOk := by
  unfold State.observeTestEntry
  split
  next => exact h
  next k sign rem hslot => exact (h.countMissed (h.hears_slot (by rw [hslot]; rfl))).emptySlot
  next k sign base rem succ final hslot =>
    have hk := h.hears_slot (k := k) (by rw [hslot]; rfl)
    have hm := h.countMissed hk
    have hcounted : (if succ.isSome then (s.countMissed k).countMissed k else s.countMissed k).TableOk :=
      .ite (fun _ => hm.countMissed hk.countMissed) fun _ => hm
    have hears : (if succ.isSome then (s.countMissed k).countMissed k else s.countMissed k).Hears k := by
      split
      · exact hk.countMissed.countMissed
      · exact hk.countMissed
    exact .ite (fun _ => hcounted.giveVerdict_emptied hears) fun _ => hcounted.emptySlot

/-! ### Reports, expiry and loss of step -/

theorem State.TableOk.afterBreak (h : s.TableOk) (k : Nat) (q : Bool) : (s.afterBreak k q).TableOk :=
  State.TableOk.observeDemotion (.ite (fun _ => h.takeNotice _) fun _ => h) _

/-- A report in range of another station (R50 to R56, R63, R64). -/
theorem State.TableOk.takeReport (h : s.TableOk) {k : Nat} (hk : k ∈ stations) (hown : k ≠ s.own) {r : Report}
    (hr : r.inRange = true) : (s.takeReport k r).TableOk := by
  have hp : (s.setPeer k ((s.peer k).take s.image.passThreshold s.clock r)).TableOk :=
    h.setPeer ((h.entries k).take h.quorum _ hr) hown fun hs => (h.slot k hs).1
  have hrange : 1 ≤ k ∧ k ≤ 40 := by simpa [stations, List.mem_range'_1, Nat.lt_succ_iff] using hk
  have hears : (s.setPeer k ((s.peer k).take s.image.passThreshold s.clock r)).Hears k := by
    unfold State.Hears
    rw [State.peer_setPeer, if_pos ⟨rfl, hrange⟩]
    exact PeerEntry.take_heard _ _ _ _
  have hbroken : ∀ q, ((s.setPeer k ((s.peer k).take s.image.passThreshold s.clock r)).afterBreak k q).Hears k :=
    fun q => hears.sameTable (State.sameTable_afterBreak _ k q)
  unfold State.takeReport
  dsimp only
  split
  · exact (hp.afterBreak k _).observeUpdate (hbroken _) _ _
  · exact hp.observeUpdate hears _ _

/-- What R50 does not refuse is in range. -/
theorem inRange_of_parseReport {payload : List Byte} {r : Report} (h : parseReport payload = some r) :
    r.inRange = true := by
  unfold parseReport at h
  split at h
  · split at h
    · dsimp only at h
      split at h
      next hr =>
        cases h
        exact hr
      next => cases h
    · cases h
  · cases h

theorem State.TableOk.reportArrives (h : s.TableOk) {k : Nat} (hk : k ∈ stations) (hown : k ≠ s.own)
    (payload : List Byte) : (s.reportArrives k payload).TableOk := by
  unfold State.reportArrives
  split
  next r hr => exact h.takeReport hk hown (inRange_of_parseReport hr)
  next => exact h

/-- An entry with an armed watchdog is heard (R58). -/
theorem State.TableOk.hears_of_deadline (h : s.TableOk) {k : Nat} (hd : (s.peer k).deadline ≠ none) : s.Hears k := by
  intro ha
  obtain ⟨habsent, -⟩ := h.entries k
  exact hd (by rw [habsent ha]; rfl)

theorem State.TableOk.expire (h : s.TableOk) {k : Nat} (hk : s.Hears k) : (s.expire k).TableOk := by
  have hp : (s.setPeer k (s.peer k).lapse).TableOk :=
    h.setPeer ((h.entries k).lapse h.quorum hk) (h.not_own hk) fun hs => (h.slot k hs).1
  exact State.TableOk.observeDemotion (.ite (fun _ => hp.takeNotice _) fun _ => hp) _

theorem State.TableOk.watchdogDue (h : s.TableOk) (due : WatchdogDue) : (s.watchdogDue due).TableOk := by
  unfold State.watchdogDue
  split
  next d _ hd =>
    have hk := h.hears_of_deadline (k := due.station) (by rw [hd]; simp)
    have hclock : ({ s with clock := max s.clock due.moment } : State).TableOk := h.of_eq
    exact .ite (fun _ => hclock.expire hk) fun _ => h
  next => exact h

/-- A loss of step demotes every peer that is heard and leaves no observation (R61, R155). -/
theorem State.TableOk.loseStep (h : s.TableOk) : s.loseStep.TableOk := by
  have hi : s.loseStep.image = s.image := by simp [State.image]
  refine ⟨by rw [hi]; exact h.quorum, by simpa using h.window, fun k => ?_, ?_, fun k hk => ?_⟩
  · rw [State.peer_loseStep, hi]
    split
    · exact (h.entries k).loseStep h.quorum
    · exact h.entries k
  · rw [State.own, hi, State.peer_loseStep, show s.peer s.image.station = PeerEntry.atReset from h.own]
    split <;> rfl
  · have hempty : s.loseStep.observation = .empty := by
      unfold State.loseStep State.slotAbandoned
      cases hp : s.observation.peer? with
      | none => cases ho : s.observation <;> simp_all [Slot.peer?]
      | some p => simp [(h.slot p hp).1, show (s.peer p).state ≠ .absent from h.hears_slot hp]
    rw [hempty] at hk
    cases hk

/-! ### The works of an evaluation -/

theorem State.TableOk.work (h : s.TableOk) (began : Mode) (w : EvalWork) : (s.work began w).TableOk := by
  cases w with
  | accumulatorClose => exact show s.closeAccumulator.TableOk from h.of_eq
  | staleNotice => exact show (s.staleNotice began).TableOk from h.of_eq
  | fadeStep => exact show s.fadeStep.TableOk from h.of_eq
  | balanceEngine => exact show s.balanceWork.TableOk from h.of_eq
  | drawVerifier => exact show s.drawWork.TableOk from h.of_eq
  | excitationUnit => exact show s.excitationWork.TableOk from h.of_eq
  | couplingObserver => exact .ite (fun _ => h.observe) fun _ => h

/-- A reader of an older table leaves the table as it stands (R66). -/
theorem State.TableOk.workSeeing (h : s.TableOk) (began : Mode) (seen : List (Nat × PeerEntry)) (w : EvalWork) :
    (State.workSeeing began s seen w).TableOk := by
  unfold State.workSeeing
  refine .ite (fun hw => h.of_eq ?_) fun _ => h.work began w
  obtain ⟨-, rfl | rfl⟩ := hw
  · simp [State.work]
  · simp [State.work]

end Table

end Sys2Proof.Machine
end

section
/-! SUPPORT. The laws of line, peer table and answer queue over frames, directives and the node's own attempts (R29 to
R44, R100 to R109, R175 to R177). -/

namespace Sys2Proof.Machine

/-! ### Attempts on the line (R37 to R44) -/

section Attempts

variable {s : State}

/-- An attempt ended, in a node whose slot and counts are lawful (R37). -/
theorem State.lineOk_endAttempt (hon : s.control.mode.lineOn = true)
    (hslot : s.control.mode.reports = false → s.line.reportDue = false ∧ s.line.refill = false)
    (hbad : s.line.badFrames ≤ Config.counter16Max)
    (hin : s.line.step = .inStep → s.line.badRun < s.image.badThreshold)
    (hout : s.line.step = .outOfStep → s.line.badRun = s.image.badThreshold) {rx : RxState} (hrx : rx ≠ .stopped) :
    (s.endAttempt rx).LineOk :=
  State.LineSound.settleTx ⟨⟨fun _ => hrx, fun _ => hon⟩, by simp, hslot, hbad, hin, hout⟩

theorem State.LineOk.endAttempt (h : s.LineOk) (hon : s.control.mode.lineOn = true) {rx : RxState}
    (hrx : rx ≠ .stopped) : (s.endAttempt rx).LineOk := by
  obtain ⟨-, -, hslot, hbad, hin, hout⟩ := h.sound
  exact State.lineOk_endAttempt hon hslot hbad hin hout hrx

theorem State.lineOn_of_isSending (h : s.isSending = true) : s.control.mode.lineOn = true := by
  unfold State.isSending at h
  exact (Bool.and_eq_true_iff.mp h).1

theorem State.lineOn_of_attempting {src : Source} (h : s.attempting src = true) : s.control.mode.lineOn = true := by
  unfold State.attempting at h
  split at h
  · exact (Bool.and_eq_true_iff.mp h).1
  · cases h

theorem State.lineOn_of_canReceive (h : s.canReceive = true) : s.control.mode.lineOn = true := by
  unfold State.canReceive at h
  exact (Bool.and_eq_true_iff.mp h).1

/-- What an attempt sends stands in its place (R40). -/
theorem State.chooseAttempt_place {a : Attempt} (h : s.chooseAttempt = some a) :
    (a.source = .answer → s.handler.queue ≠ []) ∧ (a.source = .report → s.line.reportDue = true) := by
  unfold State.chooseAttempt at h
  split at h
  next b rest hq =>
    cases h
    exact ⟨fun _ => by rw [hq]; simp, nofun⟩
  next =>
    split at h
    next hd =>
      cases h
      exact ⟨nofun, fun _ => hd⟩
    next => cases h

theorem State.LineOk.beginAttempt (h : s.LineOk) : s.beginAttempt.LineOk := by
  rcases s.beginAttempt_cases with he | ⟨a, ha, hon, -, -, he⟩ <;> rw [he]
  · exact h
  · obtain ⟨-, -, hslot, hbad, hin, hout⟩ := h.sound
    obtain ⟨hq, hd⟩ := State.chooseAttempt_place ha
    refine ⟨⟨fun _ => nofun, fun _ => hon⟩, nofun, ?_, fun hr => ⟨(hslot hr).1, rfl⟩, hbad, hin, hout⟩
    intro b hb
    obtain rfl : a = b := Option.some.inj hb
    exact ⟨hon, .inl rfl, .inl rfl, hq, fun hr => .inl (hd hr)⟩

/-- A REPORT sent whole leaves the slot as the refill mark has it, so it is empty in LISTEN (R41, R43). -/
theorem State.LineOk.reportSent (h : s.LineOk) {t : State} (ht : exec .reportSent s = .next t) : t.LineOk := by
  obtain rfl := Host.Outcome.next.inj ht
  refine .ite (fun hsend => ?_) fun _ => h
  obtain ⟨-, -, hslot, hbad, hin, hout⟩ := h.sound
  refine State.lineOk_endAttempt (rx := .waitIdle) ?_ (fun hr => ?_) ?_ ?_ ?_ nofun
  · exact State.lineOn_of_attempting hsend
  · exact ⟨(hslot hr).2, (hslot hr).2⟩
  · exact hbad
  · exact hin
  · exact hout

theorem State.LineOk.lineIdle (h : s.LineOk) {t : State} (ht : exec .lineIdle s = .next t) : t.LineOk := by
  obtain rfl := Host.Outcome.next.inj ht
  refine .ite (fun ⟨hon, _, hnone⟩ => ?_) fun _ => h
  obtain ⟨-, htx, -, hslot, hbad, hin, hout⟩ := h
  exact ⟨⟨fun _ => nofun, fun _ => hon⟩, htx, by simp [hnone], hslot, hbad, hin, hout⟩

/-- Only an attempt stands in CONTENDING (R37, R38). -/
theorem State.LineOk.winContention (h : s.LineOk) : s.winContention.LineOk := by
  refine .ite (fun hc => ?_) fun _ => h
  obtain ⟨hrx, htx, hatt, hrest⟩ := h
  refine ⟨hrx, fun hn => ?_, fun a ha => ?_, hrest⟩
  · have := (htx hn).symm.trans hc
    split at this <;> cases this
  · obtain ⟨hon, hr, -, hplace⟩ := hatt a ha
    exact ⟨hon, hr, .inr rfl, hplace⟩

/-! ### Frames judged (R31 to R35) -/

/-- A frame judged bad while the line works: below K the run stays below it, and at K the step is lost (R33, R34). -/
theorem State.LineOk.judgeBad (h : s.LineOk) (hon : s.control.mode.lineOn = true) : s.judgeBad.LineOk := by
  obtain ⟨-, htx, hatt, hslot, -, hin, hout⟩ := h
  unfold State.judgeBad
  dsimp only
  generalize hs1 : ({ s with line := _ } : State) = s1
  have hs1 : s1.LineOk := by
    subst hs1
    refine ⟨⟨fun _ => nofun, fun _ => hon⟩, htx, fun a ha => ?_, hslot, satInc_le _ _, fun hstep => ?_, fun hstep => ?_⟩
    · obtain ⟨_, -, ht, hq, hd⟩ := hatt a ha
      exact ⟨hon, .inr rfl, ht, hq, fun hr => (hd hr).imp id fun ⟨hl, _⟩ => ⟨hl, rfl⟩⟩
    · by_cases hl : s.losesStep = true
      · simp [hl] at hstep
      · have hs : s.line.step = .inStep := by simpa [hl] using hstep
        have hk : s.line.badRun + 1 ≠ s.image.badThreshold := by simpa [State.losesStep, hs] using hl
        have hrun : s.line.badRun < s.image.badThreshold := hin hs
        show (if s.line.step = .inStep then s.line.badRun + 1 else s.line.badRun) < s.image.badThreshold
        rw [if_pos hs]
        omega
    · show (if s.line.step = .inStep then s.line.badRun + 1 else s.line.badRun) = s.image.badThreshold
      by_cases hl : s.losesStep = true
      · simp only [State.losesStep, Bool.and_eq_true, decide_eq_true_eq] at hl
        rw [if_pos hl.1]
        exact hl.2
      · have hs : s.line.step = .outOfStep := by simpa [hl] using hstep
        rw [if_neg (by simp [hs])]
        exact hout hs
  exact .ite (fun _ => (hs1.takeNotices _).loseStep) fun _ => hs1.takeNotice _

theorem State.TableOk.judgeBad (h : s.TableOk) : s.judgeBad.TableOk := by
  unfold State.judgeBad
  dsimp only
  exact .ite (fun _ => State.TableOk.loseStep h.of_eq) fun _ => h.of_eq

theorem State.LineOk.receiveBad (h : s.LineOk) : s.receiveBad.LineOk :=
  .ite (fun hr => h.judgeBad (State.lineOn_of_canReceive hr)) fun _ => h

theorem State.LineOk.faultBit (h : s.LineOk) : s.faultBit.LineOk := by
  refine .ite (fun hs => ?_) fun _ => h
  have hon := State.lineOn_of_isSending hs
  exact (h.endAttempt hon (rx := .waitIdle) nofun).judgeBad (by simpa using hon)

theorem State.TableOk.faultBit (h : s.TableOk) : s.faultBit.TableOk :=
  .ite (fun _ => State.TableOk.judgeBad h.of_eq) fun _ => h

theorem State.LineOk.loseBit (h : s.LineOk) : s.loseBit.LineOk :=
  .ite (fun hs => (h.endAttempt (State.lineOn_of_isSending hs) (rx := .waitIdle) nofun).takeNotice _) fun _ => h

/-- A node that has just counted a good frame: no report's attempt is left over from before an entry to LISTEN, and
one that goes on has had its frame (R31, R41). -/
structure State.Attending (s : State) : Prop where
  line : s.LineOk
  on : s.control.mode.lineOn = true
  due : s.ReportDue
  taken : s.line.rx = .waitIdle

theorem State.LineOk.attending (h : s.LineOk) (hk : 1 ≤ s.image.badThreshold) (hr : s.canReceive = true) (m : Nat) :
    (s.heard m).Attending := by
  have hon := State.lineOn_of_canReceive hr
  obtain ⟨-, htx, hatt, hslot, hbad, -⟩ := h
  have hopen : s.line.rx ≠ .waitIdle := by
    rintro hw
    simp [State.canReceive, hw] at hr
  have hdue : ∀ a ∈ s.line.attempt, a.source = .report → s.line.reportDue = true := fun a ha hsrc => by
    obtain ⟨-, -, -, -, hd⟩ := hatt a ha
    exact (hd hsrc).resolve_right fun ⟨_, hw⟩ => hopen hw
  refine ⟨⟨⟨fun _ => nofun, fun _ => hon⟩, htx, fun a ha => ?_, hslot, hbad, fun _ => hk, nofun⟩, hon, hdue, rfl⟩
  obtain ⟨_, -, ht, hq, -⟩ := hatt a ha
  exact ⟨hon, .inr rfl, ht, hq, fun hsrc => .inl (hdue a ha hsrc)⟩

end Attempts

/-! ### Directives carried out -/

section Directives

variable {s : State}

theorem State.Attending.changeMode (h : s.Attending) {m : Mode} (hm : m.lineOn = true) : (s.changeMode m).LineOk :=
  h.line.changeMode h.on h.due hm fun _ => h.taken

theorem State.Attending.doSetMode (h : s.Attending) (target : Nat) : (s.doSetMode target).node.LineOk := by
  have hphase : ∀ p, s.control.mode.isTrim = true → (s.changePhase p).LineOk := fun p ht => h.line.changePhase p ht
  unfold State.doSetMode
  split
  · unfold State.towardListen
    split
    · exact h.line
    · exact h.changeMode rfl
    · exact h.line
  · unfold State.towardReport
    split
    · exact h.changeMode rfl
    · exact h.line
    · exact h.line
    next hm => exact .ite (fun _ => h.changeMode rfl) fun _ => hphase _ (by rw [hm]; rfl)
    · exact h.line
  · unfold State.towardTrim
    split
    · split
      · exact h.line
      · have hzero : ({ s with control := { s.control with authority := 0, trim := 0 } } : State).Attending :=
          ⟨h.line.of_eq, h.on, h.due, h.taken⟩
        exact hzero.changeMode rfl
    next hm =>
      have ht : s.control.mode.isTrim = true := by rw [hm]; rfl
      exact .ite (fun _ => hphase _ ht) fun _ => hphase _ ht
    · exact h.line
    · exact h.line
  · exact h.line

theorem State.Attending.doStopTest (h : s.Attending) : s.doStopTest.node.LineOk := by
  unfold State.doStopTest
  split
  · exact State.Attending.changeMode (s := s.endTest .aborted) ⟨h.line.of_eq, h.on, h.due, h.taken⟩ rfl
  · exact h.line

theorem State.Attending.doStartTest (h : s.Attending) : s.doStartTest.node.LineOk := by
  unfold State.doStartTest
  split
  · exact h.line
  · refine State.LineOk.observeTestEntry (State.Attending.changeMode ?_ rfl)
    exact ⟨h.line.of_eq, h.on, h.due, h.taken⟩

/-- LOAD_PATTERN, CLEAR_FAULTS, TUNE, READ and SNAPSHOT: of the node beside the pattern, the fault unit, the requested
pin, the tuning values and the snapshot, all is left as it is. -/
theorem State.doLoadPattern_frame (s : State) (n : Nat) (levels : List Byte) (hold amplitude tolerance : Nat)
    (target : Byte) :
    ∃ p, (s.doLoadPattern n levels hold amplitude tolerance target).node
      = { s with excitation := { s.excitation with pattern := p } } := by
  unfold State.doLoadPattern
  split
  · exact ⟨_, rfl⟩
  · split
    · exact ⟨_, rfl⟩
    · split <;> exact ⟨_, rfl⟩

theorem State.doTune_frame (h : s.SettingsOk) (item : Nat) (hi lo : Byte) :
    ∃ (f : FaultUnit) (r : Option Nat) (u : Tuning), u.InRange ∧ (s.doTune item hi lo).node
      = { s with
          fault := f, tracker := { s.tracker with requested := r }, handler := { s.handler with tuning := u } } := by
  obtain ⟨-, hu, -⟩ := h
  have hmask : ∀ set number value, ∃ f, (s.tuneMask set number value).node = { s with fault := f } := by
    intro set number value
    unfold State.tuneMask
    split <;> exact ⟨_, rfl⟩
  unfold State.doTune
  split
  · split
    · exact ⟨_, _, _, hu, rfl⟩
    · obtain ⟨f, hf⟩ := hmask FaultUnit.setDetect hi.toNat lo.toNat
      exact ⟨f, _, _, hu, hf⟩
    · obtain ⟨f, hf⟩ := hmask FaultUnit.setSignal hi.toNat lo.toNat
      exact ⟨f, _, _, hu, hf⟩
    · split
      · exact ⟨_, _, _, hu, rfl⟩
      next hr => exact ⟨_, _, _, hu.set hr _, rfl⟩
  · exact ⟨_, _, _, hu, rfl⟩

theorem State.doRead_node (s : State) (item index : Nat) : (s.doRead item index).node = s := by
  unfold State.doRead
  split <;> rfl

theorem State.Attending.carryOut (h : s.Attending) (hs : s.SettingsOk) (kind : Nat) (args : List Byte) :
    (s.carryOut kind args).node.LineOk := by
  unfold State.carryOut
  split
  · exact h.doSetMode _
  · obtain ⟨p, hp⟩ := s.doLoadPattern_frame (arg args 0).toNat ((args.drop 1).take 8) (arg args 9).toNat
      (u16 (arg args 10) (arg args 11)) (u16 (arg args 12) (arg args 13)) (arg args 14)
    rw [hp]
    exact h.line.of_eq
  · exact h.doStartTest
  · exact h.doStopTest
  · exact h.line.of_eq ⟨rfl, rfl, rfl, rfl⟩
  · obtain ⟨f, r, u, -, hn⟩ := State.doTune_frame hs (arg args 0).toNat (arg args 1) (arg args 2)
    rw [hn]
    exact h.line.of_eq
  · rw [State.doRead_node]
    exact h.line
  · exact h.line.of_eq (t := s.takeSnapshot)
  · exact h.line
  · exact h.line

theorem State.doSetMode_table (s : State) (target : Nat) :
    (s.doSetMode target).node.peers = s.peers ∧ (s.doSetMode target).node.observation = s.observation
      ∧ (s.doSetMode target).node.handler = s.handler ∧ (s.doSetMode target).node.startUnit = s.startUnit := by
  unfold State.doSetMode State.towardListen State.towardReport State.towardTrim State.beginFadeOut State.enterTrim
    State.reverseFade
  (repeat' split) <;> simp [refuse, done]

theorem State.doStopTest_table (s : State) :
    s.doStopTest.node.peers = s.peers ∧ s.doStopTest.node.observation = s.observation
      ∧ s.doStopTest.node.handler = s.handler ∧ s.doStopTest.node.startUnit = s.startUnit := by
  unfold State.doStopTest
  split <;> simp [refuse, done]

theorem State.TableOk.doStartTest (h : s.TableOk) : s.doStartTest.node.TableOk := by
  unfold State.doStartTest
  split
  · exact h
  · exact State.TableOk.observeTestEntry h.of_eq

theorem State.doStartTest_handler (s : State) : s.doStartTest.node.handler = s.handler := by
  unfold State.doStartTest
  split
  · rfl
  · simp [done, State.beginTest]

theorem State.TableOk.carryOut (h : s.TableOk) (hs : s.SettingsOk) (kind : Nat) (args : List Byte) :
    (s.carryOut kind args).node.TableOk := by
  unfold State.carryOut
  split
  · obtain ⟨hp, ho, hh, hu⟩ := s.doSetMode_table (arg args 0).toNat
    exact h.of_eq ⟨hp, ho, by rw [hh], hu⟩
  · obtain ⟨p, hp⟩ := s.doLoadPattern_frame (arg args 0).toNat ((args.drop 1).take 8) (arg args 9).toNat
      (u16 (arg args 10) (arg args 11)) (u16 (arg args 12) (arg args 13)) (arg args 14)
    rw [hp]
    exact h.of_eq
  · exact h.doStartTest
  · obtain ⟨hp, ho, hh, hu⟩ := s.doStopTest_table
    exact h.of_eq ⟨hp, ho, by rw [hh], hu⟩
  · exact h.of_eq ⟨rfl, rfl, rfl, rfl⟩
  · obtain ⟨f, r, u, hu, hn⟩ := State.doTune_frame hs (arg args 0).toNat (arg args 1) (arg args 2)
    obtain ⟨-, -, -, -, -, -, -, ⟨-, hwindow⟩, -⟩ := hu
    rw [hn]
    exact ⟨h.quorum, hwindow, h.entries, h.own, h.slot⟩
  · rw [State.doRead_node]
    exact h
  · exact h.of_eq (t := s.takeSnapshot)
  · exact h
  · exact h

/-- No directive carried out touches the answer queue or the dropped counter; its answer comes after it (R176). -/
theorem State.carryOut_queue (hs : s.SettingsOk) (kind : Nat) (args : List Byte) :
    (s.carryOut kind args).node.handler.queue = s.handler.queue
      ∧ (s.carryOut kind args).node.handler.dropped = s.handler.dropped := by
  unfold State.carryOut
  split
  · obtain ⟨-, -, hh, -⟩ := s.doSetMode_table (arg args 0).toNat
    rw [hh]
    exact ⟨rfl, rfl⟩
  · obtain ⟨p, hp⟩ := s.doLoadPattern_frame (arg args 0).toNat ((args.drop 1).take 8) (arg args 9).toNat
      (u16 (arg args 10) (arg args 11)) (u16 (arg args 12) (arg args 13)) (arg args 14)
    rw [hp]
    exact ⟨rfl, rfl⟩
  · rw [s.doStartTest_handler]
    exact ⟨rfl, rfl⟩
  · obtain ⟨-, -, hh, -⟩ := s.doStopTest_table
    rw [hh]
    exact ⟨rfl, rfl⟩
  · exact ⟨rfl, rfl⟩
  · obtain ⟨f, r, u, -, hn⟩ := State.doTune_frame hs (arg args 0).toNat (arg args 1) (arg args 2)
    rw [hn]
    exact ⟨rfl, rfl⟩
  · rw [State.doRead_node]
    exact ⟨rfl, rfl⟩
  · exact ⟨rfl, rfl⟩
  · exact ⟨rfl, rfl⟩
  · exact ⟨rfl, rfl⟩

/-! ### The lengths of answers (R30, R193) -/

@[simp] theorem be16_length (n : Nat) : (be16 n).length = 2 := rfl
@[simp] theorem be16s_length (z : Int) : (be16s z).length = 2 := rfl
@[simp] theorem be32_length (n : Nat) : (be32 n).length = 4 := rfl
@[simp] theorem be32s_length (z : Int) : (be32s z).length = 4 := rfl

theorem optionalCode_length_le (c : Option Nat) : (optionalCode c).length ≤ 2 := by
  cases c <;> simp [optionalCode, optional]

theorem ShareResult.data_length_le (r : ShareResult) : r.data.length ≤ 33 := by
  unfold ShareResult.data
  split <;> simp [optionalCode, optional]

theorem DrawResult.data_length_le (r : DrawResult) : r.data.length ≤ 17 := by
  have hup : (optional (r.upstreamSpeed.map be16)).length ≤ 3 := by cases r.upstreamSpeed <;> simp [optional]
  unfold DrawResult.data
  split <;> simp [optionalCode, optional] at hup ⊢ <;> omega

theorem PeerEntry.data_length_le (e : PeerEntry) (clock : Nat) : (e.data clock).length ≤ 36 := by
  unfold PeerEntry.data
  split
  · simp
  next r _ =>
    have hd := optionalCode_length_le (e.deadline.map (remaining clock))
    have hv := optionalCode_length_le (e.verdict.map CouplingVerdict.code)
    simp [PeerEntry.fields]
    omega
  · simp

theorem FaultUnit.firstTripData_length_le (f : FaultUnit) : ∀ d ∈ f.firstTripData, d.length ≤ 37 := by
  have hc : ∀ (c : TripContents) (m : Bool), (c.data m).length ≤ 36 := fun c m => by
    have h1 := optionalCode_length_le (c.mode.phase?.map Phase.code)
    have h2 := optionalCode_length_le c.testStep
    have h3 := optionalCode_length_le (c.cause.map Cause.code)
    simp [TripContents.data]
    omega
  intro d hd
  unfold FaultUnit.firstTripData at hd
  split at hd <;> cases hd <;> exact Nat.succ_le_succ (hc _ _)

theorem FaultUnit.firstWarnData_length_le (f : FaultUnit) : ∀ d ∈ f.firstWarnData, d.length ≤ 37 := by
  intro d hd
  unfold FaultUnit.firstWarnData at hd
  split at hd <;> cases hd <;> simp [WarnContents.data]

/-- Every item of READ fits an ANSWER frame (R30, R193). -/
theorem State.readItem_length_le (s : State) (item index : Nat) : ∀ d ∈ s.readItem item index, d.length ≤ 37 := by
  intro d hd
  unfold State.readItem at hd
  split at hd
  · split at hd
    · cases hd
      have hp := optionalCode_length_le (s.control.mode.phase?.map Phase.code)
      simp [State.nodeData]
      omega
    · cases hd
      cases hr : s.balance.result with
      | none => simp [optional]
      | some r =>
        have hr := r.data_length_le
        simp [optional]
        omega
    · cases hd
      cases hr : s.draw.result with
      | none => simp [optional]
      | some r =>
        have hr := r.data_length_le
        simp [optional]
        omega
    · cases hd
  · split at hd
    · cases hd
      exact (PeerEntry.data_length_le _ _).trans (by decide)
    · cases hd
  · split at hd
    · cases hd
      unfold State.peerNextData
      split
      · exact Nat.succ_le_succ (PeerEntry.data_length_le _ _)
      · simp
    · cases hd
  · cases hd
    simp [FaultUnit.faultsData]
  · obtain ⟨k, -, rfl⟩ := Option.map_eq_some_iff.mp hd
    simp
  · exact s.fault.firstTripData_length_le d hd
  · exact s.fault.firstWarnData_length_le d hd
  · obtain ⟨p, -, rfl⟩ := Option.map_eq_some_iff.mp hd
    simp [patternChars]
  · obtain ⟨v, -, rfl⟩ := Option.map_eq_some_iff.mp hd
    simp [Verdict.data]
  · cases hd
    have hp := optionalCode_length_le s.tracker.pin
    simp [State.tuningData]
    omega
  · obtain ⟨c, -, rfl⟩ := Option.map_eq_some_iff.mp hd
    simp [Snapshot.data]
  · cases hd

/-- READ alone answers with data. -/
theorem State.carryOut_data_length_le (s : State) (kind : Nat) (args : List Byte) :
    (s.carryOut kind args).data.length ≤ 37 := by
  unfold State.carryOut
  split
  · unfold State.doSetMode State.towardListen State.towardReport State.towardTrim
    (repeat' split) <;> simp [refuse, done]
  · unfold State.doLoadPattern
    (repeat' split) <;> simp [refuse, clampedOrDone]
  · unfold State.doStartTest
    split <;> simp [refuse, done]
  · unfold State.doStopTest
    split <;> simp [refuse, done]
  · simp [State.doClearFaults, done]
  · unfold State.doTune State.tuneMask State.tunePin
    (repeat' split) <;> simp [refuse, done, clampedOrDone]
  · unfold State.doRead
    split
    next d hd => exact s.readItem_length_le _ _ d hd
    next => simp [refuse]
  · simp [done]
  · simp [done]
  · simp [refuse]

end Directives

end Sys2Proof.Machine
end

section
/-! SUPPORT. The laws of line, answer queue, peer table and observation slot over every command and every step (R29 to
R64, R145 to R156, R177). -/

namespace Sys2Proof.Machine

/-- The laws of line, answer queue and peer table, over those of settings, START, tracker and drive link. -/
structure State.Linked (s : State) : Prop extends s.Measured where
  line : s.LineOk
  queue : s.QueueOk
  table : s.TableOk

section Steps

variable {s t : State}

theorem State.QueueOk.of_eq (h : s.QueueOk) (e : t.handler.queue = s.handler.queue
    ∧ t.handler.dropped = s.handler.dropped := by simp) : t.QueueOk := by
  unfold State.QueueOk at h ⊢
  rwa [e.1, e.2]

theorem State.QueueOk.ite {c : Prop} [Decidable c] (ht : c → s.QueueOk) (hu : ¬ c → t.QueueOk) :
    (if c then s else t).QueueOk := by
  split
  · exact ht ‹_›
  · exact hu ‹_›

/-- A command that has no effect on line, queue and table but through notices. -/
theorem State.Linked.of_measured (h : s.Linked) (ht : t.Measured) (hl : t.LineOk)
    (e : t.peers = s.peers ∧ t.observation = s.observation ∧ t.handler = s.handler ∧ t.startUnit = s.startUnit := by
      simp) : t.Linked :=
  ⟨ht, hl, h.queue.of_eq (by simp [e]), h.table.of_eq (by simp [e])⟩

theorem State.SettingsOk.badThreshold_pos (h : s.SettingsOk) : 1 ≤ s.image.badThreshold := by
  obtain ⟨⟨-, -, -, -, -, -, ⟨hk, -⟩, -⟩, -⟩ := h
  exact hk

theorem State.working_of_lineOn (h : s.Measured) (hon : s.control.mode.lineOn = true) : s.Working :=
  ⟨h, fun e => by simp [e, Mode.lineOn] at hon⟩

/-! ### Directives and frames -/

theorem State.LineOk.enqueue (h : s.LineOk) (a : Answer) : (s.enqueue a).LineOk := by
  obtain ⟨hrx, hatt, hslot, hbad, hin, hout⟩ := h.sound
  refine State.LineSound.settleTx ⟨hrx, fun b hb => ?_, hslot, hbad, hin, hout⟩
  obtain ⟨hon, hr, ht, -, hd⟩ := hatt b hb
  exact ⟨hon, hr, ht, fun _ => by simp, hd⟩

/-- One more answer, where the queue has room for it (R177). -/
theorem State.QueueOk.enqueue (h : s.QueueOk) (hroom : s.handler.queue.length < Config.queueDepth) {a : Answer}
    (ha : a.data.length ≤ 37) : (s.enqueue a).QueueOk := by
  obtain ⟨-, hfit, hdrop⟩ := h
  have hq : (s.enqueue a).handler.queue = s.handler.queue ++ [a] := by simp [State.enqueue]
  refine ⟨?_, fun b hb => ?_, by simpa using hdrop⟩
  · rw [hq]
    simpa using hroom
  · rw [hq, List.mem_append, List.mem_singleton] at hb
    rcases hb with hb | rfl
    · exact hfit b hb
    · simp only [Answer.payload, List.length_cons]
      omega

theorem State.QueueOk.dropDirective (h : s.QueueOk) (terminal : Byte) : (s.dropDirective terminal).QueueOk := by
  obtain ⟨hlen, hfit, -⟩ := h
  have hh : (s.dropDirective terminal).handler
      = { s.handler with dropped := satInc Config.counter16Max s.handler.dropped } := by
    simp [State.dropDirective]
  unfold State.QueueOk
  rw [hh]
  exact ⟨hlen, hfit, satInc_le _ _⟩

/-- A directive addressed to the node, taken (R175, R176). -/
theorem State.Linked.takeAddressed (h : s.Linked) (ha : s.Attending)
    (hroom : s.handler.queue.length < Config.queueDepth) (terminal tag kind : Byte) (args : List Byte) :
    (s.takeAddressed terminal tag kind args).LineOk ∧ (s.takeAddressed terminal tag kind args).QueueOk
      ∧ (s.takeAddressed terminal tag kind args).TableOk := by
  have hset : s.countDirective.SettingsOk := h.settings
  have hatt : s.countDirective.Attending := ⟨ha.line.of_eq, ha.on, ha.due, ha.taken⟩
  have htable : s.countDirective.TableOk := h.table.of_eq
  have hqueue : s.countDirective.QueueOk := h.queue
  unfold State.takeAddressed State.reply
  dsimp only
  split
  · exact ⟨hatt.line.enqueue _, hqueue.enqueue hroom (by simp [refuse]), htable.of_eq (by simp [refuse])⟩
  · obtain ⟨hq, hd⟩ := State.carryOut_queue hset kind.toNat args
    have hlen := s.countDirective.carryOut_data_length_le kind.toNat args
    have hqueue' : (s.countDirective.carryOut kind.toNat args).node.QueueOk := hqueue.of_eq ⟨hq, hd⟩
    refine ⟨(hatt.carryOut hset _ _).enqueue _, hqueue'.enqueue (by rwa [hq]) hlen, ?_⟩
    exact (htable.carryOut hset kind.toNat args).of_eq

theorem State.Linked.directive (h : s.Linked) (ha : s.Attending) (terminal : Byte) (payload : List Byte) :
    (s.directive terminal payload).Linked := by
  have hwork := State.working_of_lineOn h.toMeasured ha.on
  have hmeasured := (hwork.directive ha.on terminal payload).toMeasured
  suffices hsuff : (s.directive terminal payload).LineOk ∧ (s.directive terminal payload).QueueOk
      ∧ (s.directive terminal payload).TableOk by
    obtain ⟨hl, hq, ht⟩ := hsuff
    exact ⟨hmeasured, hl, hq, ht⟩
  have hatt : s.countDirective.Attending := ⟨ha.line.of_eq, ha.on, ha.due, ha.taken⟩
  unfold State.directive
  split
  next target tag kind args =>
    split
    · split
      next hroom => exact h.takeAddressed ha hroom terminal tag kind args
      next =>
        exact ⟨State.LineOk.takeNotice h.line.of_eq _, h.queue.dropDirective terminal,
          h.table.of_eq (by simp [State.dropDirective])⟩
    · split
      · unfold State.takeBroadcast
        split
        · obtain ⟨hp, ho, hh, hu⟩ := s.countDirective.doStopTest_table
          exact ⟨hatt.doStopTest, h.queue.of_eq (by rw [hh]; exact ⟨rfl, rfl⟩),
            h.table.of_eq ⟨hp, ho, by rw [hh]; rfl, hu⟩⟩
        · split
          · exact ⟨h.line.of_eq, h.queue.of_eq, h.table.of_eq⟩
          · exact ⟨h.line, h.queue, h.table⟩
      · exact ⟨h.line, h.queue, h.table⟩
  next => exact ⟨h.line, h.queue, h.table⟩

/-- The station of an allowed REPORT frame is a node's (R30). -/
theorem frameStation_report {c : Byte} (hc : frameClass c = 2) (hok : contentionOk c = true) :
    frameStation c ∈ stations := by
  have hrange : 1 ≤ frameStation c ∧ frameStation c ≤ Config.nodeMax := by
    simpa [contentionOk, hc] using hok
  simp only [Config.nodeMax] at hrange
  simp only [stations, List.mem_range'_1]
  omega

theorem State.Linked.route (h : s.Linked) (ha : s.Attending) {c : Byte} (hok : contentionOk c = true)
    (payload : List Byte) : (s.route c payload).Linked := by
  have hwork := State.working_of_lineOn h.toMeasured ha.on
  have hclash : (s.takeNotice (notice .idClash s.own)).Linked :=
    h.of_measured (hwork.follows (s.follows_takeNotice _)).toMeasured (h.line.takeNotice _)
  unfold State.route
  split
  · exact h.directive ha c payload
  · split
    · exact hclash
    · exact h
  next hc =>
    split
    · exact hclash
    next hown =>
      exact ⟨(hwork.follows (s.follows_reportArrives _ _)).toMeasured, h.line.reportArrives _ _,
        h.queue.of_eq, h.table.reportArrives (frameStation_report hc hok) hown _⟩
  · exact h

theorem State.Linked.judgeBad (h : s.Linked) (hon : s.control.mode.lineOn = true) : s.judgeBad.Linked :=
  ⟨((State.working_of_lineOn h.toMeasured hon).follows s.follows_judgeBad).toMeasured, h.line.judgeBad hon,
    h.queue.of_eq, h.table.judgeBad⟩

theorem State.Linked.receive (h : s.Linked) (moment : Nat) (c : Byte) (payload : List Byte) :
    (s.receive moment c payload).Linked := by
  unfold State.receive
  split
  next hr =>
    obtain ⟨hr, -⟩ := hr
    have hon := State.lineOn_of_canReceive hr
    split
    next hok =>
      have hatt := h.line.attending h.settings.badThreshold_pos hr moment
      have hheard : (s.heard moment).Linked :=
        h.of_measured ((State.working_of_lineOn h.toMeasured hon).follows (s.follows_heard moment)).toMeasured hatt.line
      exact hheard.route hatt hok.1 payload
    next => exact h.judgeBad hon
  next => exact h

theorem State.Linked.receiveBad (h : s.Linked) : s.receiveBad.Linked := by
  unfold State.receiveBad
  split
  next hr => exact h.judgeBad (State.lineOn_of_canReceive hr)
  next => exact h

theorem State.Linked.receiveChars (h : s.Linked) (moment : Nat) (chars : List Byte) :
    (s.receiveChars moment chars).Linked := by
  unfold State.receiveChars
  split
  · exact h.receive ..
  · exact h.receiveBad

/-! ### The resets -/

/-- A line at its reset values in START (R46). -/
theorem State.lineOk_atReset (hl : s.line = Line.atReset) (hm : s.control.mode = .start)
    (hk : 1 ≤ s.image.badThreshold) : s.LineOk := by
  unfold State.LineOk
  rw [hl, hm]
  simp [Line.atReset, Mode.lineOn]
  omega

/-- A table at its reset values, whatever the own station (R70). -/
theorem State.SettingsOk.tableOk_atReset (h : s.SettingsOk) (hp : s.peers = Vector.replicate 40 PeerEntry.atReset)
    (ho : s.observation = .empty) : s.TableOk := by
  obtain ⟨⟨-, -, -, -, -, ⟨hquorum, -⟩, -⟩, ⟨-, -, -, -, -, -, -, ⟨-, hwindow⟩, -⟩, -⟩ := h
  have hpeer : ∀ k, s.peer k = PeerEntry.atReset := fun k => by
    unfold State.peer
    rw [hp]
    split
    · by_cases hk : k - 1 < 40 <;> simp [hk]
    · rfl
  refine ⟨hquorum, hwindow, fun k => ?_, hpeer _, by simp [ho, Slot.peer?]⟩
  rw [hpeer]
  exact PeerEntry.atReset_ok _

theorem State.QueueOk.of_empty (hq : s.handler.queue = []) (hd : s.handler.dropped ≤ Config.counter16Max) :
    s.QueueOk :=
  ⟨by simp [hq], by simp [hq], hd⟩

/-- Line, queue and table at their reset values in START. -/
theorem State.Measured.linked_atReset (h : s.Measured) (hl : s.line = Line.atReset) (hm : s.control.mode = .start)
    (hp : s.peers = Vector.replicate 40 PeerEntry.atReset) (ho : s.observation = .empty) (hq : s.handler.queue = [])
    (hd : s.handler.dropped ≤ Config.counter16Max) : s.Linked :=
  ⟨h, State.lineOk_atReset hl hm h.settings.badThreshold_pos, .of_empty hq hd, h.settings.tableOk_atReset hp ho⟩

/-- A node in START with its dropped counter in its width (R96). -/
theorem State.Measured.linked_start (h : s.Measured) (hm : s.control.mode = .start)
    (hd : s.handler.dropped ≤ Config.counter16Max) : s.Linked := by
  obtain ⟨-, -, -, -, hreset⟩ := h.start
  obtain ⟨-, hline, -, -, -, -, hslot, -, hpeers, -, -, -, -, hq, -⟩ := hreset hm
  exact h.linked_atReset hline hm hpeers hslot hq hd

theorem State.Linked.answerDone (h : s.Linked) (hw : s.Working) : s.answerDone.Linked := by
  have hm := hw.answerDone
  rcases s.answerDone_cases with he | ⟨hatt, a, rest, hq, he⟩ | ⟨hatt, -, he⟩ <;> rw [he] at hm ⊢
  · exact h
  · by_cases hr : a.resets = true
    · rw [if_pos hr] at hm ⊢
      exact hm.linked_atReset rfl rfl rfl rfl rfl (Nat.zero_le _)
    · rw [if_neg hr] at hm ⊢
      obtain ⟨hlen, hfit, hdrop⟩ := h.queue
      obtain ⟨-, -, hslot, hbad, hin, hout⟩ := h.line.sound
      rw [hq] at hlen hfit
      refine ⟨hm, ?_, ⟨?_, ?_, ?_⟩, h.table.of_eq⟩
      · refine State.lineOk_endAttempt (rx := .waitIdle) ?_ ?_ ?_ ?_ ?_ nofun
        · exact State.lineOn_of_attempting hatt
        · exact hslot
        · exact hbad
        · exact hin
        · exact hout
      · simpa using (Nat.le_succ _).trans hlen
      · simpa using fun b hb => hfit b (List.mem_cons_of_mem _ hb)
      · simpa using hdrop
  · exact ⟨hm, h.line.endAttempt (State.lineOn_of_attempting hatt) nofun, h.queue.of_eq, h.table.of_eq⟩

/-! ### The tracker, the drive link and an evaluation's works -/

theorem State.LineOk.gateElapsed (h : s.LineOk) : s.gateElapsed.LineOk := by
  have ht : ({ s with tracker := s.tracker.gateEnd s.image.gate } : State).LineOk := h.of_eq
  exact .ite (fun _ => h) fun _ => .ite (fun _ => ht.takeNotice _) fun _ => ht

theorem State.Linked.gateElapsed (h : s.Linked) (hw : s.Working) : s.gateElapsed.Linked := by
  refine h.of_measured hw.gateElapsed.toMeasured h.line.gateElapsed ?_
  rw [State.gateElapsed, if_neg hw.working]
  simp

theorem State.LineOk.torqueCharacter (h : s.LineOk) (c : Byte) : (s.torqueCharacter c).LineOk := by
  unfold State.torqueCharacter
  split
  · exact .ite (fun _ => h.of_eq) fun _ => h
  · exact .ite (fun _ => .ite (fun _ => State.LineOk.takeNotices h.of_eq _) fun _ => h.of_eq) fun _ => h.of_eq
  · exact h.of_eq

theorem State.torqueCharacter_table (s : State) (c : Byte) :
    (s.torqueCharacter c).peers = s.peers ∧ (s.torqueCharacter c).observation = s.observation
      ∧ (s.torqueCharacter c).handler = s.handler ∧ (s.torqueCharacter c).startUnit = s.startUnit := by
  unfold State.torqueCharacter State.judgeTorque
  (repeat' split) <;> simp

theorem State.Linked.torqueArrives (h : s.Linked) (hw : s.Working) (chars : List Byte) :
    (s.torqueArrives chars).Linked := by
  rw [State.torqueArrives, if_neg hw.working]
  induction chars generalizing s with
  | nil => exact h
  | cons c chars ih =>
    have hc := hw.torqueCharacter c
    exact ih (h.of_measured hc.toMeasured (h.line.torqueCharacter c) (s.torqueCharacter_table c)) hc

theorem State.Linked.cutTorque (h : s.Linked) (hw : s.Working) : s.cutTorque.Linked := by
  have hm := hw.cutTorque.toMeasured
  by_cases hc : s.control.mode = .start ∨ s.drive.opened = []
  · rwa [State.cutTorque, if_pos hc]
  · rw [State.cutTorque, if_neg hc] at hm ⊢
    exact h.of_measured hm h.line.of_eq

theorem State.Linked.takeTableEvent (h : s.Linked) (hw : s.Working) (e : TableEvent) : (s.takeTableEvent e).Linked := by
  cases e with
  | report m k p => exact h.receive ..
  | badFrame => exact h.receiveBad
  | faultyBitAbort =>
    refine ⟨(hw.follows s.follows_faultBit).toMeasured, h.line.faultBit, h.queue.of_eq ?_, h.table.faultBit⟩
    show s.faultBit.handler.queue = _ ∧ s.faultBit.handler.dropped = _
    unfold State.faultBit
    split <;> simp
  | watchdogExpiry due =>
    refine ⟨(hw.follows (s.follows_watchdogDue due)).toMeasured, h.line.watchdogDue due, h.queue.of_eq ?_,
      h.table.watchdogDue due⟩
    show (s.watchdogDue due).handler.queue = _ ∧ (s.watchdogDue due).handler.dropped = _
    unfold State.watchdogDue
    (repeat' split) <;> simp

theorem State.workSeeing_handler (s : State) (began : Mode) (seen : List (Nat × PeerEntry)) (w : EvalWork) :
    (State.workSeeing began s seen w).handler = s.handler := by
  unfold State.workSeeing
  split <;> simp

theorem State.Linked.evaluated (h : s.Linked) (hw : s.Working) (order : List EvalWork) (during : List Interruption) :
    (s.evaluated order during).Linked := by
  have hcount : s.countEvaluation.Linked ∧ s.countEvaluation.Working := by
    have hc : s.countEvaluation.Working := hw.follows (.of_eq ⟨rfl, rfl, rfl, rfl, rfl⟩)
    exact ⟨h.of_measured hc.toMeasured h.line.of_eq, hc⟩
  have hworks : (s.countEvaluation.runWorks order during).Linked
      ∧ (s.countEvaluation.runWorks order during).Working := by
    refine State.runWorks_during_induct (P := fun t => t.Linked ∧ t.Working) order during hcount ?_ ?_
    · exact fun e t ⟨ht, htw⟩ => ⟨ht.takeTableEvent htw e, htw.takeTableEvent e⟩
    · intro w seen t ⟨ht, htw⟩
      have hwork := htw.workSeeing s.countEvaluation.control.mode seen w
      have hh := t.workSeeing_handler s.countEvaluation.control.mode seen w
      exact ⟨⟨hwork.toMeasured, ht.line.workSeeing _ seen w, ht.queue.of_eq (by rw [hh]; exact ⟨rfl, rfl⟩),
        ht.table.workSeeing _ seen w⟩, hwork⟩
  obtain ⟨hl, hwl⟩ := hworks
  refine hl.of_measured (hw.evaluated order during).toMeasured ?_ (by simp [State.evaluated])
  exact State.LineOk.fillSlot hl.line.of_eq

/-- An event between an evaluation's work and its frame. -/
theorem State.Linked.takeLate (h : s.Linked) (e : LateEvent) : (s.takeLate e).Linked := by
  by_cases hm : s.control.mode = .start
  · rwa [State.takeLate_start hm]
  · have hw : s.Working := ⟨h.toMeasured, hm⟩
    have hmeasured := h.toMeasured.takeLate e
    cases e with
    | gateEnd => exact h.gateElapsed hw
    | torqueFrame chars => exact h.torqueArrives hw chars
    | torqueGapCutOff => exact h.cutTorque hw
    | torqueFramingError => exact h.cutTorque hw
    | goodFrame m chars => exact h.receiveChars m chars
    | badFrame => exact h.receiveBad
    | watchdogExpiry due => exact h.takeTableEvent hw (.watchdogExpiry due)
    | payloadBitLoss =>
      refine h.of_measured hmeasured h.line.loseBit ?_
      simp only [State.takeLate, State.loseBit]
      split <;> simp
    | faultyBitAbort => exact h.takeTableEvent hw .faultyBitAbort
    | attempt =>
      refine h.of_measured hmeasured (.ite (fun _ => h.line) fun _ => h.line.beginAttempt) ?_
      simp only [State.takeLate]
      split
      · simp
      · rcases s.beginAttempt_cases with he | ⟨a, -, -, -, -, he⟩ <;> rw [he] <;> simp
    | answerSent => exact h.answerDone hw

/-! ### Every command and every step -/

/-- Out of START, every command but the resets. -/
theorem State.Linked.exec_working (h : s.Linked) (hw : s.Working) {c : Instr} (h1 : c ≠ .hardwareReset)
    (h2 : c ≠ .resetPinAsserted) (ht : exec c s = .next t) : t.Linked := by
  have hmeasured : t.Measured := by
    obtain ⟨u, hu, hm⟩ := hw.exec h1 h2
    obtain rfl := Host.Outcome.next.inj (ht.symm.trans hu)
    exact hm
  cases hd : directiveOf c with
  | some d =>
    rw [exec_directiveOf hd] at ht
    obtain rfl := Host.Outcome.next.inj ht
    exact h.receive ..
  | none =>
    cases c <;> simp only [directiveOf, reduceCtorEq] at hd
    case hardwareReset => exact absurd rfl h1
    case resetPinAsserted => exact absurd rfl h2
    case reportSent =>
      refine h.of_measured hmeasured (h.line.reportSent ht) ?_
      obtain rfl := Host.Outcome.next.inj ht
      split <;> simp
    case lineIdle =>
      refine h.of_measured hmeasured (h.line.lineIdle ht) ?_
      obtain rfl := Host.Outcome.next.inj ht
      split <;> simp
    all_goals obtain rfl := Host.Outcome.next.inj ht
    case startCheck record => simpa [hw.working] using h
    case softStartEnd => simpa [hw.working] using h
    case encoderEdge =>
      rw [if_neg hw.working] at hmeasured ⊢
      exact h.of_measured hmeasured h.line.of_eq
    case gateEnd => exact h.gateElapsed hw
    case torqueFrame => exact h.torqueArrives hw _
    case torqueGapCutOff => exact h.cutTorque hw
    case torqueFramingError => exact h.cutTorque hw
    case evaluation course =>
      rw [if_neg hw.working] at hmeasured ⊢
      have hlate : (course.late.foldl State.takeLate (s.evaluated course.order course.during)).Linked :=
        State.takeLate_induct (P := State.Linked) course.late (h.evaluated hw _ _) fun e t ht => ht.takeLate e
      exact hlate.of_measured hmeasured hlate.line.of_eq
    case reportArrival => exact h.receive ..
    case goodFrame => exact h.receiveChars ..
    case badFrame => exact h.receiveBad
    case watchdogExpiry due => exact h.takeTableEvent hw (.watchdogExpiry due)
    case attempt =>
      refine h.of_measured hmeasured h.line.beginAttempt ?_
      rcases s.beginAttempt_cases with he | ⟨a, -, -, -, -, he⟩ <;> rw [he] <;> simp
    case contentionLost =>
      refine h.of_measured hmeasured (.ite (fun hs => ?_) fun _ => h.line) (by split <;> simp)
      exact h.line.endAttempt (State.lineOn_of_isSending hs.1) nofun
    case payloadBitLoss => exact h.takeLate .payloadBitLoss
    case faultyBitAbort => exact h.takeTableEvent hw .faultyBitAbort
    case answerSent => exact h.answerDone hw

/-- START's end in LISTEN, over blocks at their reset values (R31, R96). -/
theorem State.Measured.enterListen_linked (hm : s.enterListen.Measured) (hline : s.line = Line.atReset)
    (hbal : s.balance = Balance.atReset) (hposted : s.drive.posted = false)
    (hpeers : s.peers = Vector.replicate 40 PeerEntry.atReset) (hslot : s.observation = .empty)
    (hq : s.handler.queue = []) (hd : s.handler.dropped ≤ Config.counter16Max) : s.enterListen.Linked := by
  have hk := hm.settings.badThreshold_pos
  have htable := hm.settings.tableOk_atReset
  rw [State.enterListen_atReset hline hbal hposted hq] at hm hk htable ⊢
  refine ⟨hm, ?_, .of_empty hq hd, htable hpeers hslot⟩
  refine ⟨by simp [Mode.lineOn], ?_, ?_, ?_, ?_, ?_, ?_⟩ <;> simp [hline, Line.atReset, State.somethingToSend, hq]
  exact hk

/-- In START, the record's check and the end of a soft reset (R187, R189). -/
theorem State.Linked.exec_start (h : s.Linked) (hm : s.control.mode = .start) {c : Instr} (h1 : c ≠ .hardwareReset)
    (h2 : c ≠ .resetPinAsserted) (ht : exec c s = .next t) : t.Linked := by
  have hmeasured : t.Measured := by
    obtain ⟨u, hu, hmu⟩ := h.toMeasured.exec c
    obtain rfl := Host.Outcome.next.inj (ht.symm.trans hu)
    exact hmu
  obtain ⟨-, -, -, -, hreset⟩ := h.start
  obtain ⟨hdrive, hline, -, hbal, -, -, hslot, -, hpeers, -, -, -, -, hq, -⟩ := hreset hm
  obtain ⟨-, -, hd⟩ := h.queue
  have hposted : s.drive.posted = false := by rw [hdrive]; rfl
  by_cases h3 : ∃ record, c = .startCheck record
  · obtain ⟨record, rfl⟩ := h3
    obtain rfl := Host.Outcome.next.inj ht
    split at hmeasured
    next hp =>
      rw [if_pos hp]
      split at hmeasured
      next hg =>
        rw [if_pos hg]
        exact State.Measured.enterListen_linked hmeasured hline hbal hposted hpeers hslot hq hd
      next hg =>
        rw [if_neg hg]
        let u : State :=
          { s with
            startUnit := StartUnit.atReset .over, fault := s.fault.load Image.fallback
            tracker := Tracker.atReset Image.fallback.floorRung }
        have hu : u.LineOk := State.lineOk_atReset hline hm (Nat.le_refl 1)
        refine ⟨hmeasured, hu.takeNotice _, ?_, hmeasured.settings.tableOk_atReset ?_ ?_⟩
        · exact h.queue.of_eq (by simp [State.startBad])
        · simpa [State.startBad] using hpeers
        · simpa [State.startBad] using hslot
    next hp => rwa [if_neg hp]
  by_cases h4 : c = .softStartEnd
  · subst h4
    obtain rfl := Host.Outcome.next.inj ht
    split at hmeasured
    next hp =>
      rw [if_pos hp]
      exact State.Measured.enterListen_linked hmeasured hline hbal hposted hpeers hslot hq hd
    next hp => rwa [if_neg hp]
  · rw [Machine.exec_start hm h1 h2 (fun record e => h3 ⟨record, e⟩) h4] at ht
    obtain rfl := Host.Outcome.next.inj ht
    exact h

/-- The two hardware resets. -/
theorem State.hardReset_linked (s : State) {phase : StartPhase} (hp : phase = .reading ∨ phase = .pinHeld) :
    (s.hardReset phase).Linked :=
  (s.hardReset_measured hp).linked_atReset rfl rfl rfl rfl rfl (Nat.zero_le _)

theorem State.Linked.exec (h : s.Linked) {c : Instr} (ht : exec c s = .next t) : t.Linked := by
  by_cases h1 : c = .hardwareReset
  · subst h1
    obtain rfl := Host.Outcome.next.inj ht
    exact s.hardReset_linked (.inl rfl)
  by_cases h2 : c = .resetPinAsserted
  · subst h2
    obtain rfl := Host.Outcome.next.inj ht
    exact s.hardReset_linked (.inr rfl)
  by_cases hm : s.control.mode = .start
  · exact h.exec_start hm h1 h2 ht
  · exact h.exec_working ⟨h.toMeasured, hm⟩ h1 h2 ht

/-- What these laws of a node look at, left alone. -/
theorem State.PeersOk.of_eq (h : s.PeersOk) (e : t.peers = s.peers ∧ t.observation = s.observation
    ∧ t.startUnit = s.startUnit ∧ t.control.mode = s.control.mode := by simp) : t.PeersOk := by
  obtain ⟨hp, ho, hu, hm⟩ := e
  unfold State.PeersOk State.own State.peer State.image at h ⊢
  rwa [hp, ho, hu, hm]

/-- In HOLD, where the own entry may be any, line, queue and table stand still but for the resets (R29, R57). -/
theorem exec_hold_keepsLineAndPeers {c : Instr} (hm : s.control.mode = .hold) (hl : s.LineOk) (hq : s.QueueOk)
    (hp : s.PeersOk) (ht : exec c s = .next t) : t.LineOk ∧ t.QueueOk ∧ t.PeersOk := by
  have hreset : ∀ phase, phase = .reading ∨ phase = .pinHeld → (s.hardReset phase).LineOk
      ∧ (s.hardReset phase).QueueOk ∧ (s.hardReset phase).PeersOk := fun phase hphase =>
    have h := s.hardReset_linked hphase
    ⟨h.line, h.queue, h.table.peersOk⟩
  by_cases h1 : c = .hardwareReset
  · subst h1
    obtain rfl := Host.Outcome.next.inj ht
    exact hreset _ (.inl rfl)
  by_cases h2 : c = .resetPinAsserted
  · subst h2
    obtain rfl := Host.Outcome.next.inj ht
    exact hreset _ (.inr rfl)
  obtain ⟨u, hu, hheld⟩ := exec_hold hm h1 h2
  obtain rfl := Host.Outcome.next.inj (ht.symm.trans hu)
  have hmode : t.control.mode = s.control.mode := hheld.mode.trans hm.symm
  exact ⟨hl.of_eq ⟨hheld.line, hmode, by rw [hheld.handler], hheld.startUnit⟩,
    hq.of_eq (by rw [hheld.handler]; exact ⟨rfl, rfl⟩),
    hp.of_eq ⟨hheld.peers, hheld.observation, hheld.startUnit, hmode⟩⟩

/-- Out of HOLD, a sound node's own entry is unused: in START by the reset, and otherwise by R47. -/
theorem State.Sound.linked (h : s.Sound) (hm : s.control.mode ≠ .hold) : s.Linked := by
  have hmeasured : s.Measured := ⟨h.settings, h.start, h.tracker, h.drive⟩
  obtain ⟨hentries, hown, hslot⟩ := h.peers
  by_cases hs : s.control.mode = .start
  · obtain ⟨-, -, hd⟩ := h.queue
    exact hmeasured.linked_start hs hd
  have hon : s.control.mode.lineOn = true := by cases hc : s.control.mode <;> simp_all [Mode.lineOn]
  obtain ⟨⟨-, -, -, -, -, ⟨hquorum, -⟩, -⟩, ⟨-, -, -, -, -, -, -, ⟨-, hwindow⟩, -⟩, -⟩ := h.settings
  refine ⟨hmeasured, h.line, h.queue, ⟨hquorum, hwindow, fun k => ?_, hown hon, fun k hk => (hslot k hk).2⟩⟩
  by_cases hk : k ∈ stations
  · exact hentries k hk
  · rw [s.peer_outside hk]
    exact PeerEntry.atReset_ok _

end Steps

/-- Settles O60: out of HOLD by the laws that every command keeps, in HOLD by what stands still there, and with no
command by the transmitter alone. -/
theorem stepKeepsLineAndPeers : Obligations.StepKeepsLineAndPeers := by
  intro s t hs hstep
  unfold step at hstep
  split at hstep
  next c rest _ =>
    by_cases hm : s.control.mode = .hold
    · exact exec_hold_keepsLineAndPeers (s := { s with pending := rest }) hm hs.line.of_eq hs.queue.of_eq
        hs.peers.of_eq hstep
    · have h := hs.linked hm
      have hq : ({ s with pending := rest } : State).Linked :=
        h.of_measured ⟨h.settings, h.start, h.tracker, h.drive⟩ h.line.of_eq
      have ht := hq.exec hstep
      exact ⟨ht.line, ht.queue, ht.table.peersOk⟩
  next =>
    obtain rfl := Host.Outcome.next.inj hstep
    exact ⟨hs.line.winContention.of_eq, hs.queue.of_eq, hs.peers.of_eq⟩

end Sys2Proof.Machine
end

section
/-! SUPPORT. Reports and frames written and read back (R30, R32, R50, R192). -/

namespace Sys2Proof.Machine

/-! ### Reports (R50, R192) -/

theorem ReportMode.ofCode?_byte_code (m : ReportMode) : ReportMode.ofCode? (byte m.code).toNat = some m := by
  cases m <;> rfl

theorem Level.ofByte?_toByte (l : Level) : Level.ofByte? l.toByte = some l := by
  cases l <;> rfl

theorem toNat_byte_of_lt {n : Nat} (h : n < 256) : (byte n).toNat = n := by
  rw [toNat_byte, Nat.mod_eq_of_lt h]

/-- A signed two-byte field written and read. -/
theorem s16_be16s {z : Int} (h1 : -32768 ≤ z) (h2 : z < 32768) :
    s16 (byte ((BitVec.ofInt 16 z).toNat / 256)) (byte (BitVec.ofInt 16 z).toNat) = z := by
  rw [s16, u16_be16 _ (BitVec.ofInt 16 z).isLt, BitVec.ofNat_toNat, BitVec.setWidth_eq, BitVec.toInt_ofInt]
  exact Int.bmod_eq_of_le (by simpa using h1) (by simpa using h2)

/-- The flags character spells its four fields. -/
theorem Contents.flags_spell (c : Contents) :
    Summary.ofCode? (c.flags.toNat / 4 % 4) = some c.summary ∧ c.flags.getLsbD 0 = c.speedValid
      ∧ c.flags.getLsbD 1 = c.torqueStale ∧ c.flags.getLsbD 4 = c.testRunning := by
  unfold Contents.flags
  cases c.speedValid <;> cases c.torqueStale <;> cases c.testRunning <;> cases c.summary <;> decide

theorem parseReport_composeReport {r : Report} (h : r.inRange = true) : parseReport (composeReport r) = some r := by
  have hr := h
  simp only [Report.inRange, Bool.and_eq_true, decide_eq_true_eq] at hr
  obtain ⟨⟨⟨⟨⟨⟨⟨⟨⟨⟨⟨hg, -⟩, hw⟩, hpos⟩, -⟩, hper⟩, hspeed⟩, htlow⟩, httop⟩, hxlow⟩, hxtop⟩, hstep⟩ := hr
  have hspeed : r.contents.speed ≤ 40000 := hspeed
  have htlow : -30000 ≤ r.contents.torque := htlow
  have httop : r.contents.torque ≤ 30000 := httop
  obtain ⟨hsummary, hvalid, hstale, hrunning⟩ := r.contents.flags_spell
  simp only [composeReport, be16, be16s, List.cons_append, List.nil_append, parseReport,
    ReportMode.ofCode?_byte_code, Level.ofByte?_toByte, hsummary, hvalid, hstale, hrunning]
  rw [toNat_byte_of_lt (n := r.shape.group) (by omega), toNat_byte_of_lt (n := r.shape.weight) (by omega),
    toNat_byte_of_lt (n := r.shape.position) (by omega), toNat_byte_of_lt (n := r.shape.period) (by omega),
    toNat_byte_of_lt (n := r.contents.testStep) (by omega), u16_be16 _ (by omega), s16_be16s (by omega) (by omega),
    s16_be16s (by omega) (by omega)]
  exact if_pos h

/-! ### Frames (R30, R32) -/

/-- A frame's characters, one after the other. -/
theorem frameChars_eq (c : Byte) (payload : List Byte) :
    frameChars c payload =
      Config.startDelimiter :: c :: byte payload.length :: (payload
        ++ [byte ((crc (c :: byte payload.length :: payload)).toNat / 256),
          byte (crc (c :: byte payload.length :: payload)).toNat, Config.endDelimiter]) := by
  simp [frameChars, be16]

theorem frameChars_length (c : Byte) (payload : List Byte) : (frameChars c payload).length = payload.length + 6 := by
  simp [frameChars_eq]

/-- The judgement of R32 on a frame whose length character is its payload's length. -/
theorem judgeFrame_payload (start c hi lo stop : Byte) {len : Byte} {payload : List Byte}
    (h : len.toNat = payload.length) :
    judgeFrame (start :: c :: len :: (payload ++ [hi, lo, stop])) =
      if start = Config.startDelimiter ∧ contentionOk c = true ∧ lengthOk c payload.length = true
          ∧ u16 hi lo = (crc (c :: len :: payload)).toNat ∧ stop = Config.endDelimiter
      then some (c, payload) else none := by
  simp only [judgeFrame, h, List.take_left, List.drop_left, true_and]
  by_cases hhead : start = Config.startDelimiter ∧ contentionOk c = true ∧ lengthOk c payload.length = true
  · rw [if_pos hhead]
    obtain ⟨h1, h2, h3⟩ := hhead
    simp only [h1, h2, h3, true_and]
  · rw [if_neg hhead, if_neg fun ⟨h1, h2, h3, _⟩ => hhead ⟨h1, h2, h3⟩]

/-- A frame whose length character is not its payload's length is bad. -/
theorem judgeFrame_length_ne (start c hi lo stop : Byte) {len : Byte} {payload : List Byte}
    (h : len.toNat ≠ payload.length) : judgeFrame (start :: c :: len :: (payload ++ [hi, lo, stop])) = none := by
  simp only [judgeFrame]
  split
  · split
    next heq =>
      have hdrop := congrArg List.length heq
      simp only [List.length_drop, List.length_append, List.length_cons, List.length_nil] at hdrop
      omega
    next => rfl
  · rfl

/-- R32's judgement on a frame as R30 composes it. -/
theorem judgeFrame_frameChars (c : Byte) (payload : List Byte) :
    judgeFrame (frameChars c payload) =
      if contentionOk c = true ∧ lengthOk c payload.length = true ∧ payload.length < 256
      then some (c, payload) else none := by
  rw [frameChars_eq]
  by_cases hn : payload.length < 256
  · have hcrc := u16_be16 _ (crc (c :: byte payload.length :: payload)).isLt
    rw [judgeFrame_payload _ _ _ _ _ (toNat_byte_of_lt hn), hcrc]
    simp [hn]
  · rw [judgeFrame_length_ne, if_neg fun ⟨_, _, h⟩ => hn h]
    rw [toNat_byte]
    omega

/-- The classes and stations of R30. -/
theorem contentionOk_iff {c : Byte} :
    contentionOk c = true ↔ (frameClass c = 0 ∧ 60 ≤ frameStation c)
      ∨ ((frameClass c = 1 ∨ frameClass c = 2) ∧ 1 ≤ frameStation c ∧ frameStation c ≤ 40) := by
  unfold contentionOk
  split
  case h_1 h => simp [h]
  case h_2 h => simp [h, show Config.nodeMax = 40 from rfl]
  case h_3 h => simp [h, show Config.nodeMax = 40 from rfl]
  case h_4 h0 h1 h2 => simp_all

/-- The payload lengths of R30. -/
theorem lengthOk_iff {c : Byte} {n : Nat} :
    lengthOk c n = true ↔ (frameClass c = 0 ∧ 3 ≤ n ∧ n ≤ 18) ∨ (frameClass c = 1 ∧ 3 ≤ n ∧ n ≤ 40)
      ∨ (frameClass c = 2 ∧ n = 16) := by
  unfold lengthOk
  split
  case h_1 h => simp [h]
  case h_2 h => simp [h]
  case h_3 h => simp [h]
  case h_4 h0 h1 h2 => simp_all

/-- No class allows a payload of more than 40 characters. -/
theorem length_le_of_lengthOk {c : Byte} {n : Nat} (h : lengthOk c n = true) : n ≤ 40 := by
  rw [lengthOk_iff] at h
  omega

/-- A frame of an allowed contention field and length is good (R32). -/
theorem judgeFrame_good {c : Byte} {payload : List Byte} (hc : contentionOk c = true)
    (hn : lengthOk c payload.length = true) : judgeFrame (frameChars c payload) = some (c, payload) := by
  rw [judgeFrame_frameChars, if_pos ⟨hc, hn, (length_le_of_lengthOk hn).trans_lt (by decide)⟩]

/-- Settles O54: the report field by field, the frame by its one judgement. -/
theorem reportAndFrameRoundTrip : Obligations.ReportAndFrameRoundTrip := by
  refine ⟨fun r hr => ⟨rfl, parseReport_composeReport hr⟩, fun c payload hc hn => ?_, ?_,
    fun c len hi lo payload h => judgeFrame_length_ne 0x5A c hi lo 0xA5 h⟩
  · refine ⟨judgeFrame_good hc hn, frameChars_length c payload, fun start hi lo stop h => ?_⟩
    have hlen : (byte payload.length).toNat = payload.length :=
      toNat_byte_of_lt ((length_le_of_lengthOk hn).trans_lt (by decide))
    refine (judgeFrame_payload start c hi lo stop hlen).trans (if_neg fun ⟨h1, _, _, h4, h5⟩ => ?_)
    rcases h with h | h | h
    · exact h h1
    · exact h h5
    · exact h (BitVec.eq_of_toNat_eq ((u16_eq hi lo).symm.trans h4))
  · intro c payload cls station n h
    rw [judgeFrame_frameChars, if_neg]
    rintro ⟨hc, hn, -⟩
    rw [contentionOk_iff] at hc
    rw [lengthOk_iff] at hn
    simp only [frameClass, frameStation] at hc hn
    omega

end Sys2Proof.Machine
end

section
/-! SUPPORT. How attempts end, and bad frames counted (R31 to R44, R164). -/

namespace Sys2Proof.Machine

section Line

variable {s : State}

/-! ### Attempts that end (R37) -/

/-- The transmitter once an attempt has ended where the line works (R37). -/
theorem State.endAttempt_eq (hon : s.control.mode.lineOn = true) (rx : RxState) :
    s.endAttempt rx =
      { s with line :=
          { s.line with
            attempt := none, rx := rx
            tx := if s.handler.queue ≠ [] ∨ s.line.reportDue = true then .deferring else .idle } } := by
  simp [State.endAttempt, State.settleTx, hon, State.somethingToSend]

theorem State.isSending_iff : s.isSending = true ↔ s.control.mode.lineOn = true ∧ s.line.attempt ≠ none := by
  simp [State.isSending, Option.isSome_iff_ne_none]

/-- An attempt stands only where the line works (R29, R37). -/
theorem State.LineOk.isSending (h : s.LineOk) (ha : s.line.attempt ≠ none) : s.isSending = true := by
  obtain ⟨a, hs⟩ := Option.ne_none_iff_exists'.mp ha
  obtain ⟨hon, -⟩ := h.sound.attempt a hs
  exact State.isSending_iff.mpr ⟨hon, ha⟩

theorem State.attempting_eq (hon : s.control.mode.lineOn = true) {src : Source} {f : List Byte}
    (ha : s.line.attempt = some { source := src, frame := f }) : s.attempting src = true := by
  simp [State.attempting, ha, hon]

/-- Settles O39: each end of an attempt is `endAttempt` where the line works. -/
theorem attemptEnds : Obligations.AttemptEnds := by
  refine ⟨fun s hl ha hc => ?_, fun s f hon => ⟨fun ha => ?_, fun a rest ha hq hr => ?_⟩⟩
  · have hs := hl.isSending ha
    have he : exec .contentionLost s = .next (s.endAttempt .receiving) := congrArg _ (if_pos ⟨hs, hc⟩)
    rw [he, State.endAttempt_eq (State.lineOn_of_isSending hs)]
  · refine (congrArg _ (if_pos (State.attempting_eq hon ha))).trans ?_
    rw [State.endAttempt_eq]
    exact hon
  · have he : s.answerDone = State.endAttempt { s with handler := { s.handler with queue := rest } } .waitIdle := by
      rw [State.answerDone, if_pos (State.attempting_eq hon ha), hq]
      simp [hr]
    refine (congrArg _ he).trans ?_
    rw [State.endAttempt_eq]
    exact hon

/-! ### Bad frames (R33, R34) -/

/-- A frame judged bad below K, or while OUT_OF_STEP (R33, R34). -/
theorem State.judgeBad_counted (h : s.line.step = .inStep → s.line.badRun + 1 ≠ s.image.badThreshold) :
    s.judgeBad =
      State.takeNotice
        { s with line :=
            { s.line with
              rx := .waitIdle, badFrames := min 65535 (s.line.badFrames + 1)
              badRun := if s.line.step = .inStep then s.line.badRun + 1 else s.line.badRun } }
        (notice .lineCheck 0) := by
  have hl : s.losesStep = false := by simpa [State.losesStep] using h
  simp [State.judgeBad, hl, satInc, Config.counter16Max]

/-- LINE_CHECK as WARN class, or detect-masked (R163). -/
theorem State.takeNotice_lineCheck
    (h : s.fault.warns .lineCheck ∨ (s.fault.masked .lineCheck ∧ s.fault.driveLines = s.fault)) :
    s.takeNotice (notice .lineCheck 0) =
      { s with fault :=
          if s.fault.masked .lineCheck then s.fault else s.fault.warned .lineCheck 0 s.control.evaluations } := by
  rcases h with hw | ⟨hm, hf⟩
  · have hn : ¬ s.fault.masked .lineCheck := by simp [FaultUnit.masked, hw.2]
    rw [if_neg hn]
    exact State.takeNotice_warn s (notice .lineCheck 0) hw
  · rw [if_pos hm, State.takeNotice_masked s (notice .lineCheck 0) hm, hf]

theorem State.Open.exec_badFrame (h : s.Open) : exec .badFrame s = .next s.judgeBad :=
  congrArg _ (if_pos h.canReceive)

theorem State.exec_faultyBitAbort (h : s.isSending = true) :
    exec .faultyBitAbort s = .next (s.endAttempt .waitIdle).judgeBad :=
  congrArg _ (if_pos h)

/-- Settles O36: both ways one frame is judged bad, below K. -/
theorem badFrameIsCounted : Obligations.BadFrameIsCounted := by
  intro s hl hf hrun judged
  have hf : s.fault.warns .lineCheck ∨ (s.fault.masked .lineCheck ∧ s.fault.driveLines = s.fault) :=
    hf.imp id fun ⟨hm, ho⟩ => ⟨hm, ho.driveLines⟩
  refine ⟨fun ho => ?_, fun ha => ?_⟩
  · rw [ho.exec_badFrame, State.judgeBad_counted hrun, State.takeNotice_lineCheck]
    exact hf
  · have hs := hl.isSending ha
    rw [State.exec_faultyBitAbort hs, State.endAttempt_eq (State.lineOn_of_isSending hs), State.judgeBad_counted,
      State.takeNotice_lineCheck]
    · exact hf
    · exact hrun

/-! ### Loss of step (R34, R61, R155, R164) -/

/-- A frame judged bad that brings the run to K (R34). -/
theorem State.judgeBad_losesStep (hin : s.line.step = .inStep) (hk : s.line.badRun + 1 = s.image.badThreshold) :
    s.judgeBad =
      State.loseStep
        (State.takeNotices
          { s with line :=
              { s.line with
                rx := .waitIdle, step := .outOfStep, badRun := s.image.badThreshold
                badFrames := min 65535 (s.line.badFrames + 1) } }
          [notice .lineStep 0, notice .lineCheck 0]) := by
  have hl : s.losesStep = true := by simp [State.losesStep, hin, hk]
  simp [State.judgeBad, hl, hin, hk, satInc, Config.counter16Max]

/-- Two WARN-class notices are one set in either order (R164). -/
theorem State.takeNotices_warn_swap {a b : Notice} (ha : s.fault.warns a.kind) (hb : s.fault.warns b.kind)
    (hab : a.kind.number < b.kind.number) : s.takeNotices [a, b] = s.takeNotices [b, a] := by
  obtain ⟨hca, hda⟩ : holds s.fault.classMap a.kind = false ∧ holds s.fault.detectMask a.kind = false := ha
  obtain ⟨hcb, hdb⟩ : holds s.fault.classMap b.kind = false ∧ holds s.fault.detectMask b.kind = false := hb
  simp only [State.takeNotices, State.recordNotices, FaultUnit.live, FaultUnit.requestsDrop, List.filter, hda, hdb, hca,
    hcb, List.any, List.foldl, FaultUnit.count_count_driveLines, s.fault.raised_comm a.kind, State.toFirstTrip,
    State.toFirstWarn, Bool.not_false, Bool.or_false, Bool.false_eq_true, if_false, List.isEmpty_cons, lowest,
    if_pos hab, if_neg (Nat.not_lt.mpr hab.le), State.warnContents]

/-- The set of a loss of step, both kinds WARN class (R164, R167). -/
theorem State.takeNotices_lineStep_lineCheck (hs : s.fault.warns .lineStep) (hc : s.fault.warns .lineCheck) :
    s.takeNotices [notice .lineStep 0, notice .lineCheck 0] =
      { s with fault :=
          { (s.fault.raised .lineStep).raised .lineCheck with
            firstWarn := match s.fault.firstWarn with
              | .locked c => .locked c
              | _ => .locked { kind := .lineStep, source := 0, evaluation := s.control.evaluations }
            multipleWarn := true } } := by
  have hlower : (notice .lineStep 0).kind.number < (notice .lineCheck 0).kind.number := by decide
  rw [State.takeNotices_warn_swap hs hc hlower, State.takeNotices_warn_warn hc hs hlower]
  show ({ s with fault :=
    { (s.fault.raised .lineCheck).warned .lineStep 0 s.control.evaluations with multipleWarn := true } } : State) = _
  have hfirst : (s.fault.raised .lineCheck).firstWarn = s.fault.firstWarn := rfl
  rw [FaultUnit.warned, hfirst, s.fault.raised_comm .lineCheck]
  rcases hw : s.fault.firstWarn with _ | c | c <;> simp [FaultUnit.raised, hw]

/-- What a loss of step makes of an entry (R61, R63, R155). -/
theorem PeerEntry.loseStep_eq (e : PeerEntry) :
    e.loseStep =
      if e.state = .absent then e
      else
        { e with
          state := .probation, passCount := 0, stale := true, deadline := none, marker := false
          verdict := if e.marker then some .undetermined else e.verdict } := by
  unfold PeerEntry.loseStep PeerEntry.abandon PeerEntry.lapse
  obtain ⟨_, _, _, _, _, _, marker, _, _, _, _, _⟩ := e
  cases marker <;> rfl

/-- A slot whose peer's test is followed is emptied with that peer's demotion (R155). -/
theorem State.loseStep_observation
    (h : ∀ k ∈ s.observation.peer?, (s.peer k).marker = true ∧ (s.peer k).state ≠ .absent) :
    s.loseStep.observation = .empty := by
  unfold State.loseStep State.slotAbandoned
  cases ho : s.observation with
  | empty => simp
  | pending k _ _ =>
    obtain ⟨hm, hs⟩ := h k (by simp [ho, Slot.peer?])
    simp [Slot.peer?, hm, hs]
  | counting k _ _ _ _ _ =>
    obtain ⟨hm, hs⟩ := h k (by simp [ho, Slot.peer?])
    simp [Slot.peer?, hm, hs]

/-- The bad frame that brings the run to K, its notices WARN class (R34, R61, R155, R167). -/
theorem State.judgeBad_lost (hin : s.line.step = .inStep) (hk : s.line.badRun + 1 = s.image.badThreshold)
    (hs : s.fault.warns .lineStep) (hc : s.fault.warns .lineCheck)
    (hslot : ∀ k ∈ s.observation.peer?, (s.peer k).marker = true ∧ (s.peer k).state ≠ .absent) :
    s.judgeBad =
      { s with
        line :=
          { s.line with
            rx := .waitIdle, step := .outOfStep, badRun := s.image.badThreshold
            badFrames := min 65535 (s.line.badFrames + 1) }
        fault :=
          { (s.fault.raised .lineStep).raised .lineCheck with
            firstWarn := match s.fault.firstWarn with
              | .locked c => .locked c
              | _ => .locked { kind := .lineStep, source := 0, evaluation := s.control.evaluations }
            multipleWarn := true }
        peers := s.peers.map fun e =>
          if e.state = .absent then e
          else
            { e with
              state := .probation, passCount := 0, stale := true, deadline := none, marker := false
              verdict := if e.marker then some .undetermined else e.verdict }
        observation := .empty } := by
  have hlost (t : State) (hp : t.peers = s.peers) (ho : t.observation = s.observation) :
      t.loseStep = { t with peers := s.peers.map PeerEntry.loseStep, observation := .empty } := by
    have hempty := State.loseStep_observation (s := t) (by simpa [State.peer, hp, ho] using hslot)
    have hpeers := t.loseStep_peers
    rw [hp] at hpeers
    rw [← hpeers, ← hempty]
    rfl
  have hset := State.takeNotices_lineStep_lineCheck (s := { s with line := { s.line with
    rx := .waitIdle, step := .outOfStep, badRun := s.image.badThreshold
    badFrames := min 65535 (s.line.badFrames + 1) } }) hs hc
  rw [State.judgeBad_losesStep hin hk, hset, ← funext PeerEntry.loseStep_eq]
  exact hlost _ rfl rfl

/-- Settles O37: the same loss of step after a frame judged bad and after an attempt ended. -/
theorem lossOfStep : Obligations.LossOfStep := by
  intro s hon hin hk hs hc hslot lost
  refine ⟨fun ho => ?_, fun ha => ?_⟩
  · exact ho.exec_badFrame.trans (congrArg _ (State.judgeBad_lost hin hk hs hc hslot))
  · rw [State.exec_faultyBitAbort (State.isSending_iff.mpr ⟨hon, ha⟩), State.endAttempt_eq hon]
    exact congrArg _ (State.judgeBad_lost hin hk hs hc hslot)

end Line

end Sys2Proof.Machine
end

section
/-! SUPPORT. Frames routed to their rows, and the identity clash (R31, R32, R35, R36, R39). -/

namespace Sys2Proof.Machine

section Frames

variable {s : State}

theorem contentionOk_directive {terminal : BitVec 6} (h : 60 ≤ terminal.toNat) :
    contentionOk (contention 0 terminal) = true :=
  contentionOk_iff.mpr (.inl ⟨frameClass_contention .., by rwa [frameStation_contention]⟩)

/-- The contention field of a node's own frames (R30). -/
theorem contentionOk_node {cls : BitVec 2} (hc : cls = 1 ∨ cls = 2) {station : BitVec 6} (hlow : 1 ≤ station.toNat)
    (htop : station.toNat ≤ 40) : contentionOk (contention cls station) = true := by
  rw [contentionOk_iff, frameClass_contention, frameStation_contention]
  rcases hc with rfl | rfl
  · exact .inr ⟨.inl rfl, hlow, htop⟩
  · exact .inr ⟨.inr rfl, hlow, htop⟩

/-- The characters of a frame of an allowed field and length are received as that frame (R32). -/
theorem exec_goodFrame (moment : Nat) {c : Byte} {payload : List Byte} (hc : contentionOk c = true)
    (hn : lengthOk c payload.length = true) (s : State) :
    exec (.goodFrame moment (frameChars c payload)) s = .next (s.receive moment c payload) := by
  show Host.Outcome.next (s.receiveChars moment (frameChars c payload)) = _
  rw [State.receiveChars, judgeFrame_good hc hn]

/-- The frame that a directive command spells does what that command does (R35, R192). -/
theorem exec_goodFrame_directive {h : DirectiveHead} {kind : Byte} {args : List Byte} {c : Instr}
    (hd : directiveOf c = some (h, kind, args)) (ht : 60 ≤ h.terminal.toNat) (hn : args.length ≤ 15) (s : State) :
    exec (.goodFrame h.moment (frameChars (contention 0 h.terminal) (h.target :: h.tag :: kind :: args))) s
      = exec c s := by
  have hlength : lengthOk (contention 0 h.terminal) (h.target :: h.tag :: kind :: args).length = true :=
    lengthOk_iff.mpr (.inl ⟨frameClass_contention .., by simp, by simp; omega⟩)
  rw [exec_goodFrame _ (contentionOk_directive ht) hlength, exec_directiveOf hd, State.receiveDirective]

theorem State.isOwnFrame_iff {cls : BitVec 2} (hc : cls = 1 ∨ cls = 2) (station : BitVec 6) (payload : List Byte) :
    s.isOwnFrame (contention cls station) payload = true ↔ ¬ s.NotOwnFrame (contention cls station) payload := by
  have hclass : frameClass (contention cls station) ≠ 0 := by
    rw [frameClass_contention]
    rcases hc with rfl | rfl <;> decide
  simp [State.isOwnFrame, State.NotOwnFrame, hclass]

/-- A good frame that is not the node's own is counted and routed (R35). -/
theorem State.Open.receive_node (h : s.Open) (moment : Nat) {cls : BitVec 2} (hc : cls = 1 ∨ cls = 2)
    {station : BitVec 6} (hlow : 1 ≤ station.toNat) (htop : station.toNat ≤ 40) {payload : List Byte}
    (hn : lengthOk (contention cls station) payload.length = true)
    (hown : s.NotOwnFrame (contention cls station) payload) :
    s.receive moment (contention cls station) payload
      = (s.heard moment).route (contention cls station) payload := by
  have ho : s.isOwnFrame (contention cls station) payload = false :=
    Bool.eq_false_iff.mpr fun ht => (State.isOwnFrame_iff hc station payload).mp ht hown
  rw [State.receive, if_pos ⟨h.canReceive, ho⟩, if_pos ⟨contentionOk_node hc hlow htop, hn⟩, State.countGood_eq]

theorem lengthOk_answer {station : BitVec 6} {n : Nat} (hlow : 3 ≤ n) (htop : n ≤ 40) :
    lengthOk (contention 1 station) n = true :=
  lengthOk_iff.mpr (.inr (.inl ⟨frameClass_contention .., hlow, htop⟩))

theorem lengthOk_report {station : BitVec 6} {n : Nat} (h : n = 16) : lengthOk (contention 2 station) n = true :=
  lengthOk_iff.mpr (.inr (.inr ⟨frameClass_contention .., h⟩))

/-- Settles O34: the characters are read back as the frame they carry, which its row receives. -/
theorem goodFrameIsRouted : Obligations.GoodFrameIsRouted := by
  intro s moment payload
  refine ⟨?report, ?directive, ?answer, ?own, ?bad⟩
  case report =>
    intro station hlow htop hn
    exact exec_goodFrame moment (contentionOk_node (.inr rfl) hlow htop) (lengthOk_report hn) s
  case directive =>
    intro h kind args hm ht hn hp frame
    subst hm hp
    have hrow {c : Instr} (hd : directiveOf c = some (h, kind, args)) : exec frame s = exec c s :=
      exec_goodFrame_directive hd ht hn s
    refine ⟨hrow rfl, ?_, ?_, ?_, ?_, ?_, ?tune, ?read, ?_, ?_⟩
    case tune =>
      rintro item value rfl rfl
      refine ⟨hrow rfl, ?_, ?_, ?_⟩ <;> rintro rfl <;> exact hrow rfl
    case read =>
      rintro item index rfl rfl
      refine ⟨?_, ?_, ?_, ?_, ?_, ?_, ?_, ?_, ?_, ?_, ?_⟩ <;> rintro rfl <;> exact hrow rfl
    all_goals
      rintro rfl
      exact hrow rfl
  case answer =>
    intro station hlow htop hne ho hlen hlen' hown
    have hn := lengthOk_answer (station := station) hlen hlen'
    rw [exec_goodFrame moment (contentionOk_node (.inl rfl) hlow htop) hn,
      ho.receive_node moment (.inl rfl) hlow htop hn hown, State.route, frameClass_contention, frameStation_contention]
    exact congrArg _ (if_neg hne)
  case own =>
    intro cls station hc hlow htop hn hown
    have ho := (State.isOwnFrame_iff hc station payload).mpr hown
    rw [exec_goodFrame moment (contentionOk_node hc hlow htop) hn, State.receive, ho]
    simp
  case bad =>
    intro chars hbad
    show Host.Outcome.next (s.receiveChars moment chars) = .next s.receiveBad
    rw [State.receiveChars, hbad]

/-! ### The identity clash (R36, R39, R97, R110) -/

/-- What entry to HOLD does in every block (R97). -/
theorem State.changeMode_hold (s : State) :
    s.changeMode .hold =
      { s with
        control := { s.control with mode := .hold }
        balance := { s.balance with saturationRun := 0, shareRun := 0, groupShort := false }
        drive := { s.drive with posted := false }
        line :=
          { s.line with rx := .stopped, tx := .idle, attempt := none, reportDue := false, refill := false } } := by
  simp [State.changeMode, State.settleTx, Line.onMode, Mode.lineOn]

/-- The node dropped to HOLD: the line stopped, authority gone, a test ABORTED (R97, R110, R142). -/
def State.droppedToHold (s : State) : State :=
  { s with
    control := { s.control with mode := .hold, authority := 0, trim := 0 }
    balance := { s.balance with integrator := 0, saturationRun := 0, shareRun := 0, groupShort := false }
    drive := { s.drive with posted := false }
    line := { s.line with rx := .stopped, tx := .idle, attempt := none, reportDue := false, refill := false }
    excitation :=
      if s.control.mode = .test then
        { s.excitation with
          running := false, offset := 0, sentStep := 0, sentLevel := .zero
          verdict := some
            { outcome := .aborted, count := s.excitation.count, steps := s.excitation.stepIndex,
              baseline := s.excitation.baseline } }
      else s.excitation }

/-- The trip drop to HOLD from every mode in which the line works; outside TRIM and TEST y, u and a are 0 already. -/
theorem State.tripDrop_toHold (hon : s.control.mode.lineOn = true)
    (hz : s.control.mode.hasAuthority = false → s.control.trim = 0 ∧ s.balance.integrator = 0) :
    s.tripDrop true = s.droppedToHold := by
  have htoHold (ha : s.control.mode.hasAuthority = false) : s.toHold = s.zeroAuthority.changeMode .hold := by
    obtain ⟨htrim, hint⟩ := hz ha
    have hcontrol : { s.control with authority := 0, trim := 0 } = { s.control with authority := 0 } := by rw [← htrim]
    have hbalance : { s.balance with integrator := 0 } = s.balance := by rw [← hint]
    rw [State.toHold, State.zeroAuthority, hcontrol, hbalance]
  cases hm : s.control.mode with
  | start => simp [hm, Mode.lineOn] at hon
  | hold => simp [hm, Mode.lineOn] at hon
  | listen =>
    simp [State.droppedToHold, State.tripDrop, hm, htoHold (by simp [hm, Mode.hasAuthority]), State.changeMode_hold,
      State.zeroAuthority]
  | report =>
    simp [State.droppedToHold, State.tripDrop, hm, htoHold (by simp [hm, Mode.hasAuthority]), State.changeMode_hold,
      State.zeroAuthority]
  | trim p => simp [State.droppedToHold, State.tripDrop, hm, State.changeMode_hold, State.zeroAuthority]
  | test =>
    simp [State.droppedToHold, State.tripDrop, hm, State.changeMode_hold, State.zeroAuthority, State.endTest,
      Excitation.record]

/-- ID_CLASH taken where the line works: TRIP's record and the drop to HOLD (R110, R165). -/
theorem State.takeNotice_idClash (hon : s.control.mode.lineOn = true) (ha : s.AuthorityOk)
    (ht : s.fault.trips .idClash) (source : Nat) :
    s.takeNotice (notice .idClash source) =
      State.droppedToHold { s with fault := s.fault.tripped (s.tripContents (notice .idClash source)) } := by
  have hz (hn : s.control.mode.hasAuthority = false) : s.control.trim = 0 ∧ s.balance.integrator = 0 := by
    obtain ⟨-, -, -, hzero, -⟩ := ha
    obtain ⟨-, htrim, hint⟩ := hzero (by cases hm : s.control.mode <;> simp_all [Mode.hasAuthority, Mode.isTrim])
    exact ⟨htrim, hint⟩
  have hfixed : (notice .idClash source).kind.fixed = true := show Kind.idClash.fixed = true by decide
  rw [State.takeNotice_trip s (notice .idClash source) ht, hfixed]
  exact State.tripDrop_toHold hon hz

/-- Settles O35: every way is the one notice, from the node that counted the frame or ended the attempt. -/
theorem clashLeadsToHold : Obligations.ClashLeadsToHold := by
  intro s moment payload ha hl ht hlow htop clashed
  have hstation : (BitVec.ofNat 6 s.own).toNat = s.own := by
    rw [BitVec.toNat_ofNat]
    omega
  have hclash (hon : s.control.mode.lineOn = true) :
      (s.heard moment).takeNotice (notice .idClash s.own) = clashed (s.heard moment) s.own :=
    State.takeNotice_idClash (s := s.heard moment) hon ha ht s.own
  have hframe {cls : BitVec 2} (hc : cls = 1 ∨ cls = 2) (ho : s.Open)
      (hn : lengthOk (contention cls (BitVec.ofNat 6 s.own)) payload.length = true)
      (hown : s.NotOwnFrame (contention cls (BitVec.ofNat 6 s.own)) payload) :
      exec (.goodFrame moment (frameChars (contention cls (BitVec.ofNat 6 s.own)) payload)) s
        = .next (clashed (s.heard moment) s.own) := by
    have hlow : 1 ≤ (BitVec.ofNat 6 s.own).toNat := by rwa [hstation]
    have htop : (BitVec.ofNat 6 s.own).toNat ≤ 40 := by rwa [hstation]
    rw [exec_goodFrame moment (contentionOk_node hc hlow htop) hn, ho.receive_node moment hc hlow htop hn hown,
      ← hclash ho.1, State.route, frameClass_contention, frameStation_contention, hstation]
    rcases hc with rfl | rfl
    · exact congrArg _ (if_pos rfl)
    · exact congrArg _ (if_pos rfl)
  refine ⟨fun ho hn hown => ?_, fun ho hn hn' hown => ?_, fun hatt => ?_⟩
  · exact hframe (.inr rfl) ho (lengthOk_report hn) hown
  · exact hframe (.inl rfl) ho (lengthOk_answer hn hn') hown
  · have hs := hl.isSending hatt
    have hon := State.lineOn_of_isSending hs
    show Host.Outcome.next s.loseBit = _
    rw [State.loseBit, if_pos hs, State.endAttempt_eq hon]
    refine congrArg _ (State.takeNotice_idClash ?_ ?_ ?_ 0)
    · exact hon
    · exact ha
    · exact ht

end Frames

end Sys2Proof.Machine
end

section
/-! SUPPORT. SET_MODE carried out and answered (R94, R100 to R107). -/

namespace Sys2Proof.Machine

section Modes

variable {s : State} {h : DirectiveHead}

/-- Once an answer is queued, whether the transmitter was settled before does not tell (R37). -/
theorem State.settleTx_answered (s : State) (h : DirectiveHead) (o : AnswerOutcome) (data : List Byte) (resets : Bool) :
    s.settleTx.answered h o data resets = s.answered h o data resets := by
  unfold State.settleTx
  split
  next => rfl
  next ha => simp [State.answered, ha]

/-- A change of mode and its answer, told without the transmitter (R94). -/
theorem State.changeMode_answered (s : State) (m : Mode) (h : DirectiveHead) (o : AnswerOutcome) (data : List Byte)
    (resets : Bool) :
    (s.changeMode m).answered h o data resets
      = State.answered { s.inMode m with line := s.line.onMode m } h o data resets :=
  State.settleTx_answered ..

/-- SET_MODE carried out with an effect, or with none needed, is answered DONE (R100, R176). -/
theorem exec_setMode_done {target : Byte} {rest : List Byte} (ht : s.Takes h (1 + rest.length)) {t : State}
    (hd : (s.tookDirective h).doSetMode target.toNat = done t) (hon : t.control.mode.lineOn = true) :
    exec (.setMode h (target :: rest)) s = .next (t.answered h .done [] false) :=
  exec_taken (c := .setMode h (target :: rest)) (r := done t) rfl (takes_of_eq ht (Nat.add_comm 1 rest.length)) hd hon

/-- SET_MODE that changes the mode, answered DONE. -/
theorem exec_setMode_changeMode {target : Byte} {rest : List Byte} (ht : s.Takes h (1 + rest.length)) {t : State}
    {m : Mode} (hd : (s.tookDirective h).doSetMode target.toNat = done (t.changeMode m)) (hon : m.lineOn = true) :
    exec (.setMode h (target :: rest)) s
      = .next (State.answered { t.inMode m with line := t.line.onMode m } h .done [] false) := by
  rw [exec_setMode_done ht hd (by simpa [State.changeMode] using hon), State.changeMode_answered]

/-- R101's four conditions leave no bar. -/
theorem State.trimBar_eq_none (hl : s.tracker.state = .locked) (hr : s.drive.ready = true) (hst : s.drive.staleRun = 0)
    (hg : s.image.group ≠ 0) (hf : s.fault.status &&& s.fault.classMap = 0) : s.trimBar = none := by
  simp [State.trimBar, Tracker.valid, DriveLink.stale, FaultUnit.tripPending, hl, hr, hst, hg, hf]

/-- SET_MODE toward REPORT in FADE_IN and FULL (R106). -/
theorem State.towardReport_trim (hm : s.control.mode = .trim .fadeIn ∨ s.control.mode = .trim .full) :
    s.towardReport = done s.beginFadeOut := by
  rcases hm with hm | hm <;> rw [State.towardReport, hm]

/-- Settles O41: one row of `doSetMode` each, answered. -/
theorem setModeChangesMode : Obligations.SetModeChangesMode := by
  intro s h rest ht t phase trimIn listen
  refine ⟨fun hm => ?report, fun hm => ?listen, fun hm hl hr hst hg hf => ?trim, fun hm => ?fadeOut, fun hm => ?reverse⟩
  case report =>
    have hd : t.doSetMode 2 = done (t.changeMode .report) := show t.towardReport = _ by
      rw [State.towardReport, show t.control.mode = .listen from hm]
    exact exec_setMode_changeMode (target := 2) ht hd rfl
  case listen =>
    have hd : t.doSetMode 1 = done (t.changeMode .listen) := show t.towardListen = _ by
      rw [State.towardListen, show t.control.mode = .report from hm]
    exact exec_setMode_changeMode (target := 1) ht hd rfl
  case trim =>
    have hbar : t.trimBar = none := State.trimBar_eq_none (s := t) hl hr hst hg hf
    have hd : t.doSetMode 3 = done t.enterTrim := show t.towardTrim = _ by
      rw [State.towardTrim, show t.control.mode = .report from hm, hbar]
    exact exec_setMode_changeMode (target := 3) ht hd rfl
  case fadeOut =>
    have hd : t.doSetMode 2 = done t.beginFadeOut := State.towardReport_trim (s := t) hm
    rw [State.beginFadeOut] at hd
    by_cases hz : t.control.authority = 0
    · rw [if_pos hz] at hd
      rw [if_pos (show s.control.authority = 0 from hz)]
      exact exec_setMode_changeMode (target := 2) ht hd rfl
    · rw [if_neg hz] at hd
      rw [if_neg (show ¬ s.control.authority = 0 from hz)]
      exact exec_setMode_done (target := 2) ht hd rfl
  case reverse =>
    have hd : t.doSetMode 3 = done t.reverseFade := show t.towardTrim = _ by
      rw [State.towardTrim, show t.control.mode = .trim .fadeOut from hm]
    rw [State.reverseFade] at hd
    by_cases hz : t.control.authority = t.image.fadeLength
    · rw [if_pos hz] at hd
      rw [if_pos (show s.control.authority = s.image.fadeLength from hz)]
      exact exec_setMode_done (target := 3) ht hd rfl
    · rw [if_neg hz] at hd
      rw [if_neg (show ¬ s.control.authority = s.image.fadeLength from hz)]
      exact exec_setMode_done (target := 3) ht hd rfl

end Modes

end Sys2Proof.Machine
end

section
/-! SUPPORT. A node with one station's entry, the observation slot and the fault unit replaced: what the peer table and
the coupling observer make of these three, operation by operation (R54, R59, R63, R64, R145 to R155). -/

namespace Sys2Proof.Machine

/-- The node with station k's entry, the observation slot and the fault unit replaced: all that an event of the peer
table and the observer's part in it can move beside the frame's counting, its notices being WARN class. -/
def State.told (s : State) (k : Nat) (e : PeerEntry) (o : Slot) (f : FaultUnit) : State :=
  State.setPeer { s with observation := o, fault := f } k e

/-- The slot with an observation of peer k discarded where its test is followed (R155). -/
def Slot.unfollowed (o : Slot) (marker : Bool) (k : Nat) : Slot :=
  if marker = true ∧ o.peer? = some k then .empty else o

section Told

variable {s : State} {k : Nat} {e : PeerEntry} {o : Slot} {f : FaultUnit}

/-! ### What is read back -/

theorem State.setPeer_eq_told (s : State) (k : Nat) (e : PeerEntry) :
    s.setPeer k e = s.told k e s.observation s.fault := rfl

theorem State.told_peer (hk : 1 ≤ k ∧ k ≤ 40) : (s.told k e o f).peer k = e := by
  rw [State.told, State.peer_setPeer, if_pos ⟨rfl, hk⟩]

@[simp] theorem State.told_frame (s : State) (k : Nat) (e : PeerEntry) (o : Slot) (f : FaultUnit) :
    (s.told k e o f).observation = o ∧ (s.told k e o f).fault = f ∧ (s.told k e o f).control = s.control
      ∧ (s.told k e o f).handler = s.handler ∧ (s.told k e o f).image = s.image := by
  simp [State.told, State.image]

/-! ### One replaced once more -/

theorem State.told_setPeer (e' : PeerEntry) : (s.told k e o f).setPeer k e' = s.told k e' o f := by
  unfold State.told State.setPeer
  split
  · simp
  · rfl

theorem State.told_slot (o' : Slot) : { s.told k e o f with observation := o' } = s.told k e o' f := by
  unfold State.told State.setPeer
  split <;> rfl

theorem State.told_fault (f' : FaultUnit) : { s.told k e o f with fault := f' } = s.told k e o f' := by
  unfold State.told State.setPeer
  split <;> rfl

theorem State.told_emptySlot : (s.told k e o f).emptySlot = s.told k e .empty f := State.told_slot .empty

/-! ### Notices and the observer's tallies -/

theorem State.told_takeNotice {n : Notice} (hw : f.warns n.kind) :
    (s.told k e o f).takeNotice n = s.told k e o (f.warned n.kind n.source s.control.evaluations) := by
  obtain ⟨-, hf, hc, -⟩ := s.told_frame k e o f
  rw [State.takeNotice_warn _ n (by rwa [hf]), State.told_fault, hf, hc]

theorem State.told_countMissed (hk : 1 ≤ k ∧ k ≤ 40) :
    (s.told k e o f).countMissed k = s.told k e.missedOnce o f := by
  rw [State.countMissed, State.told_peer hk, State.told_setPeer]
  rfl

/-! ### Demotions (R63, R155) -/

theorem PeerEntry.abandon_eq (e : PeerEntry) (c : DemotionCause) : e.abandon c = e.unfollowed := rfl

theorem PeerEntry.unfollowed_marker (e : PeerEntry) : e.unfollowed.marker = false := by
  unfold PeerEntry.unfollowed
  split
  · rfl
  next h => simpa using h

theorem PeerEntry.unfollowed_eq (e : PeerEntry) :
    e.unfollowed =
      { e with marker := false, verdict := if e.marker then some .undetermined else e.verdict } := by
  obtain ⟨_, _, _, _, _, _, marker, _, _, _, _, _⟩ := e
  cases marker <;> rfl

theorem State.told_observeDemotion (hk : 1 ≤ k ∧ k ≤ 40) (c : DemotionCause) :
    (s.told k e o f).observeDemotion { station := k, cause := c }
      = s.told k e.unfollowed (o.unfollowed e.marker k) f := by
  obtain ⟨ho, -⟩ := s.told_frame k e o f
  unfold State.observeDemotion
  simp only [State.told_peer hk, PeerEntry.abandon_eq, State.told_setPeer, ho, State.told_emptySlot]
  cases hm : e.marker with
  | false => simp [Slot.unfollowed, PeerEntry.unfollowed, hm]
  | true =>
    unfold Slot.unfollowed
    by_cases hp : o.peer? = some k
    · simp [hp]
    · simp [hp]

/-- A demotion with the notice that goes before it, WARN class (R54, R59, R63). -/
theorem State.told_demoted (hk : 1 ≤ k ∧ k ≤ 40) {n : Kind} (hw : f.warns n) (c : DemotionCause) (q : Prop)
    [Decidable q] :
    (if q then (s.told k e o f).takeNotice (notice n k) else s.told k e o f).observeDemotion
        { station := k, cause := c }
      = s.told k e.unfollowed (o.unfollowed e.marker k)
          (if q then f.warned n k s.control.evaluations else f) := by
  have hn : (s.told k e o f).takeNotice (notice n k) = s.told k e o (f.warned n k s.control.evaluations) :=
    State.told_takeNotice (n := notice n k) hw
  split
  · rw [hn, State.told_observeDemotion hk]
  · rw [State.told_observeDemotion hk]

/-! ### Verdicts (R152 to R154) -/

theorem PeerEntry.concluded_eq (e : PeerEntry) :
    e.concluded = { e with verdict := some e.judged, marker := false } := rfl

/-- R154's mismatch, as the statements tell it. -/
theorem State.mismatch_iff (s : State) (hk : 1 ≤ k ∧ k ≤ 40) :
    mismatch ((s.told k e o f).sharesGroup k) e.judged = true ↔ s.Disagrees e.concluded := by
  obtain ⟨-, -, -, -, hi⟩ := s.told_frame k e o f
  have hshares : (s.told k e o f).sharesGroup k
      = e.stored.any fun r => decide (r.shape.group = s.image.group ∧ s.image.group ≠ 0) := by
    unfold State.sharesGroup
    rw [State.told_peer hk, hi]
    cases e.stored <;> simp
  rw [hshares, PeerEntry.concluded_eq]
  unfold State.Disagrees
  cases e.judged <;> simp [mismatch]

/-- A verdict given with COUPLING_MISMATCH in WARN class. -/
theorem State.told_giveVerdict (hk : 1 ≤ k ∧ k ≤ 40) (hw : f.warns .couplingMismatch) :
    (s.told k e o f).giveVerdict k
      = s.told k e.concluded o
          (if s.Disagrees e.concluded then f.warned .couplingMismatch k s.control.evaluations else f) := by
  unfold State.giveVerdict
  simp only [State.told_peer hk, State.told_setPeer, State.mismatch_iff s hk, ← PeerEntry.concluded_eq]
  split
  · exact State.told_takeNotice (n := notice .couplingMismatch k) hw
  · rfl

end Told

end Sys2Proof.Machine
end

section
/-! SUPPORT. Reports taken and refused: the frame counted, the entry by the report's case, and what the coupling observer
is told (R50 to R56, R63, R64, R145 to R148, R152). -/

namespace Sys2Proof.Machine

/-! ### The entry (R51 to R55) -/

theorem PeerEntry.caseOf_eq_start_iff (e : PeerEntry) (r : Report) : e.caseOf r = .start ↔ e.starts = true := by
  unfold PeerEntry.caseOf PeerEntry.starts PeerEntry.lapsed
  split
  next h => simpa using h
  next h =>
    have hs : ¬ (e.state = .absent ∨ (e.state = .probation ∧ e.passCount = 0)) := by simpa using h
    simp only [hs, decide_false, Bool.false_eq_true, iff_false]
    split
    · split <;> simp
    · simp

theorem PeerEntry.caseOf_eq_break_iff (e : PeerEntry) (r : Report) : e.caseOf r = .break ↔ e.broken r = true := by
  by_cases hs : e.starts = true
  · rw [(e.caseOf_eq_start_iff r).mpr hs]
    simp [PeerEntry.broken, hs]
  · have hcond : ¬ (e.state = .absent ∨ e.lapsed = true) := by
      simpa [PeerEntry.starts, PeerEntry.lapsed] using hs
    unfold PeerEntry.caseOf PeerEntry.broken
    rw [if_neg hcond]
    cases e.stored with
    | none => simp [hs]
    | some old =>
      by_cases hnext : r.sequence = old.sequence + 1 ∧ r.shape = old.shape
      · simp [hs, hnext]
      · simp [hs]
        tauto

/-- The entry after a report taken, as the statements tell it. -/
theorem PeerEntry.take_eq_heardAt (e : PeerEntry) (q now : Nat) (r : Report) : e.take q now r = e.heardAt q now r := by
  have hpass : e.passAfter q (e.caseOf r)
      = if e.starts = true ∨ e.broken r = true then 1 else min q (e.passCount + 1) := by
    simp only [← e.caseOf_eq_start_iff r, ← e.caseOf_eq_break_iff r]
    cases e.caseOf r <;> simp [PeerEntry.passAfter]
  have hdeadline : now + 2 * r.shape.period * 1000 = now + 2000 * r.shape.period := by omega
  unfold PeerEntry.take PeerEntry.heardAt
  simp only [hpass, hdeadline, e.caseOf_eq_break_iff r]
  rfl

/-- What a report leaves of an entry: the coupling observer's fields (R55). -/
@[simp] theorem PeerEntry.heardAt_frame (e : PeerEntry) (q now : Nat) (r : Report) :
    (e.heardAt q now r).marker = e.marker ∧ (e.heardAt q now r).seen = e.seen
      ∧ (e.heardAt q now r).contrary = e.contrary ∧ (e.heardAt q now r).quiet = e.quiet
      ∧ (e.heardAt q now r).missed = e.missed ∧ (e.heardAt q now r).verdict = e.verdict
      ∧ (e.heardAt q now r).stored = some r :=
  ⟨rfl, rfl, rfl, rfl, rfl, rfl, rfl⟩

section Reports

variable {s : State} {k : Nat} {r : Report}

/-! ### The report taken (R51 to R56) -/

/-- A report that breaks no run is an entry's update, told to the observer (R52, R53, R64). -/
theorem State.takeReport_unbroken (h : (s.peer k).broken r = false) :
    s.takeReport k r =
      (s.told k ((s.peer k).heardAt s.image.passThreshold s.clock r) s.observation s.fault).observeUpdate k
        ((s.peer k).stored.map Report.contents) r.contents := by
  have hc : (s.peer k).caseOf r ≠ .break := fun hb => by
    rw [(PeerEntry.caseOf_eq_break_iff _ r).mp hb] at h
    cases h
  unfold State.takeReport
  simp only [if_neg hc, PeerEntry.take_eq_heardAt, State.setPeer_eq_told]

/-- A report that breaks a run is a demotion told before the update (R54, R56, R63, R64). -/
theorem State.takeReport_broken (hk : 1 ≤ k ∧ k ≤ 40) (h : (s.peer k).broken r = true)
    (hw : s.fault.warns .peerUnsteady) :
    s.takeReport k r =
      (s.told k ((s.peer k).heardAt s.image.passThreshold s.clock r).unfollowed
          (s.observation.unfollowed (s.peer k).marker k)
          (if (s.peer k).state = .qualified then s.fault.warned .peerUnsteady k s.control.evaluations
            else s.fault)).observeUpdate k
        ((s.peer k).stored.map Report.contents) r.contents := by
  have hc : (s.peer k).caseOf r = .break := (PeerEntry.caseOf_eq_break_iff _ r).mpr h
  unfold State.takeReport State.afterBreak
  simp only [if_pos hc, PeerEntry.take_eq_heardAt, State.setPeer_eq_told, decide_eq_true_eq]
  rw [State.told_demoted hk hw]
  rfl

/-! ### The update told to the observer (R64, R145, R146) -/

theorem levelStep_self (l : Level) : levelStep l l = none := by
  unfold levelStep
  simp

section Update

variable {old now : Contents}

/-- A report in TEST after one in TEST: a test followed goes on (R146). -/
theorem State.observeUpdate_goesOn (ho : old.mode = .test) (hn : now.mode = .test) :
    s.observeUpdate k (some old) now =
      if (s.peer k).marker then s.levelChange k old.testLevel now.testLevel else s := by
  simp only [State.observeUpdate, ho, hn]

/-- The first report that no longer shows TEST: a test followed ends (R152). -/
theorem State.observeUpdate_ends (ho : old.mode = .test) (hn : now.mode ≠ .test) :
    s.observeUpdate k (some old) now = if (s.peer k).marker then s.testEnd k else s := by
  unfold State.observeUpdate
  cases hm : now.mode <;> simp_all

/-- The first report in TEST: a test begins (R145). -/
theorem State.observeUpdate_begins (ho : old.mode ≠ .test) (hn : now.mode = .test) :
    s.observeUpdate k (some old) now = s.testStart k now.testLevel := by
  unfold State.observeUpdate
  cases hm : old.mode <;> simp_all

theorem State.observeUpdate_neither (ho : old.mode ≠ .test) (hn : now.mode ≠ .test) :
    s.observeUpdate k (some old) now = s := by
  unfold State.observeUpdate
  cases hm : old.mode <;> cases hm' : now.mode <;> simp_all

/-- An update that begins no test is nothing to the observer where no test is followed, or where a test followed goes on
at its level, or where it was over before (R145, R146). -/
theorem State.observeUpdate_quiet {previous : Option Contents}
    (hbegin : now.mode = .test → ∀ old ∈ previous, old.mode = .test)
    (hfollowed : (s.peer k).marker = true → ∀ old ∈ previous, old.mode = .test →
      now.mode = .test ∧ now.testLevel = old.testLevel) :
    s.observeUpdate k previous now = s := by
  cases previous with
  | none => rfl
  | some old =>
    simp only [Option.mem_some_iff, forall_eq'] at hbegin hfollowed
    by_cases ho : old.mode = .test
    · by_cases hn : now.mode = .test
      · rw [State.observeUpdate_goesOn ho hn]
        split
        next hm => rw [State.levelChange, (hfollowed hm ho).2, levelStep_self]
        next => rfl
      · rw [State.observeUpdate_ends ho hn, if_neg fun hm => hn (hfollowed hm ho).1]
    · exact State.observeUpdate_neither ho fun hn => ho (hbegin hn)

end Update

/-! ### Report frames (R35, R50) -/

/-- The frame of another station's report is counted and its payload goes to the table (R35). -/
theorem State.Open.exec_reportArrival (h : s.Open) (moment : Nat) {station : BitVec 6} (hlow : 1 ≤ station.toNat)
    (htop : station.toNat ≤ 40) (hne : station.toNat ≠ s.own) {payload : List Byte} (hn : payload.length = 16)
    (hown : s.NotOwnFrame (contention 2 station) payload) :
    exec (.reportArrival moment station payload) s
      = .next ((s.heard moment).reportArrives station.toNat payload) := by
  show Host.Outcome.next (s.receive moment (contention 2 station) payload) = _
  rw [h.receive_node moment (.inr rfl) hlow htop (lengthOk_report hn) hown, State.route_report, frameStation_contention]
  exact congrArg _ (if_neg hne)

/-- A report in range is taken (R50). -/
theorem State.Open.exec_report (h : s.Open) (moment : Nat) {station : BitVec 6} (hlow : 1 ≤ station.toNat)
    (htop : station.toNat ≤ 40) (hne : station.toNat ≠ s.own) (hr : r.inRange = true)
    (hown : s.NotOwnFrame (contention 2 station) (composeReport r)) :
    exec (.reportArrival moment station (composeReport r)) s
      = .next ((s.heard moment).takeReport station.toNat r) := by
  rw [h.exec_reportArrival moment hlow htop hne rfl hown, State.reportArrives, parseReport_composeReport hr]

/-- A report that breaks no run, its update nothing to the observer: the entry alone moves (R52, R53, R55). -/
theorem State.takeReport_quiet (hk : 1 ≤ k ∧ k ≤ 40) (h : (s.peer k).broken r = false)
    (hbegin : r.contents.mode = .test → ∀ old ∈ (s.peer k).stored, old.contents.mode = .test)
    (hfollowed : (s.peer k).marker = true → ∀ old ∈ (s.peer k).stored, old.contents.mode = .test →
      r.contents.mode = .test ∧ r.contents.testLevel = old.contents.testLevel) :
    s.takeReport k r = s.setPeer k ((s.peer k).heardAt s.image.passThreshold s.clock r) := by
  rw [State.takeReport_unbroken h, State.observeUpdate_quiet, State.setPeer_eq_told]
  · simpa using hbegin
  · rw [State.told_peer hk]
    simpa using hfollowed

theorem PeerEntry.broken_eq_false_of_starts {e : PeerEntry} (h : e.starts = true) (r : Report) : e.broken r = false := by
  simp [PeerEntry.broken, h]

/-- A report that does not start a run continues or breaks it by its sequence and shape (R51). -/
theorem PeerEntry.broken_iff {e : PeerEntry} {old : Report} (h : e.starts = false) (ho : e.stored = some old) :
    e.broken r = true ↔ r.sequence ≠ old.sequence + 1 ∨ r.shape ≠ old.shape := by
  simp [PeerEntry.broken, h, ho]

/-- Settles O27: a report that breaks no run, its update nothing to the observer. -/
theorem reportStartsOrContinues : Obligations.ReportStartsOrContinues := by
  intro s moment station r ho hlow htop hne hr hown hbegin hfollowed k e q taken starts
  have hexec (hb : e.broken r = false) : exec (.reportArrival moment station (composeReport r)) s
      = .next ((s.heard moment).setPeer k (e.heardAt q (max s.clock moment) r)) := by
    rw [ho.exec_report moment hlow htop hne hr hown]
    exact congrArg _ (State.takeReport_quiet (s := s.heard moment) ⟨hlow, htop⟩ hb hbegin hfollowed)
  refine ⟨fun hs => ?starts, fun old hs hold hseq hshape => ?continues⟩
  case starts =>
    have hstarts : e.starts = true := decide_eq_true hs
    have hb := PeerEntry.broken_eq_false_of_starts hstarts r
    rw [hexec hb]
    simp [taken, PeerEntry.heardAt, hstarts, hb]
  case continues =>
    have hstarts : e.starts = false := decide_eq_false hs
    have hb : e.broken r = false :=
      Bool.eq_false_iff.mpr fun hb => ((PeerEntry.broken_iff hstarts hold).mp hb).elim (· hseq) (· hshape)
    rw [hexec hb]
    simp [taken, PeerEntry.heardAt, hstarts, hb]

/-- Settles O28: the demotion is told before the update, which finds no test followed. -/
theorem reportBreaks : Obligations.ReportBreaks := by
  intro s moment station r old ho hlow htop hne hr hown hbegin hw k e hstate hpass hold hbreak
  have hk : 1 ≤ k ∧ k ≤ 40 := ⟨hlow, htop⟩
  have hstarts : e.starts = false := decide_eq_false fun h => h.elim hstate fun h => hpass h.2
  have hb : e.broken r = true := (PeerEntry.broken_iff hstarts hold).mpr hbreak
  have hentry : (e.heardAt s.image.passThreshold (max s.clock moment) r).unfollowed =
      { e with
        state := if s.image.passThreshold = 1 then .qualified else .probation
        passCount := 1
        disqualification := min 255 (e.disqualification + 1)
        stored := some r
        stale := false
        deadline := some (max s.clock moment + 2000 * r.shape.period)
        marker := false
        verdict := if e.marker then some .undetermined else e.verdict } := by
    simp [PeerEntry.unfollowed_eq, PeerEntry.heardAt, hb, eq_comm (a := 1)]
  rw [ho.exec_report moment hlow htop hne hr hown, State.takeReport_broken (s := s.heard moment) hk hb hw,
    State.observeUpdate_quiet, ← hentry]
  · rfl
  · show r.contents.mode = .test → ∀ c ∈ e.stored.map Report.contents, c.mode = .test
    simpa [hold] using hbegin
  · rw [State.told_peer hk, PeerEntry.unfollowed_marker]
    exact nofun

/-! ### Reports refused (R50, R192) -/

theorem ReportMode.code_range {n : Nat} {m : ReportMode} (h : ReportMode.ofCode? n = some m) : 1 ≤ n ∧ n ≤ 3 := by
  unfold ReportMode.ofCode? at h
  split at h <;> simp_all

/-- Both flags of the summary's field together are no code. -/
theorem Summary.ofCode?_both_flags :
    ∀ fl : Byte, fl.getLsbD 2 = true → fl.getLsbD 3 = true → Summary.ofCode? (fl.toNat / 4 % 4) = Option.none := by
  decide

theorem Level.byte_code {b : Byte} {l : Level} (h : Level.ofByte? b = some l) : b = 0 ∨ b = 1 ∨ b = 0xFF := by
  unfold Level.ofByte? at h
  split at h
  · exact .inr (.inr ‹_›)
  · split at h
    · exact .inl ‹_›
    · split at h
      · exact .inr (.inl ‹_›)
      · cases h

/-- A payload with a field out of its range or its codes is no report (R50, R192). -/
theorem parseReport_eq_none (sq cc : Byte) {gr we po pe mo fl v1 v0 t1 t0 w1 w0 st lv : Byte}
    (h : 15 < gr.toNat ∨ we = 0 ∨ 40 < po.toNat ∨ pe.toNat < 5 ∨ 100 < pe.toNat ∨ mo = 0 ∨ 3 < mo.toNat
      ∨ (fl.getLsbD 2 = true ∧ fl.getLsbD 3 = true) ∨ 40000 < (v1 ++ v0).toNat ∨ (t1 ++ t0).toInt < -30000
      ∨ 30000 < (t1 ++ t0).toInt ∨ (w1 ++ w0).toInt < -2000 ∨ 2000 < (w1 ++ w0).toInt ∨ 31 < st.toNat
      ∨ (lv ≠ 0 ∧ lv ≠ 1 ∧ lv ≠ 0xFF)) :
    parseReport [sq, gr, we, po, pe, mo, fl, v1, v0, t1, t0, w1, w0, st, lv, cc] = none := by
  simp only [parseReport]
  split
  next mode summary level hmode hsummary hlevel =>
    rw [if_neg]
    intro hr
    simp only [Report.inRange, Bool.and_eq_true, decide_eq_true_eq, u16_eq, s16_eq, Config.speedMax,
      Config.torqueMax] at hr
    obtain ⟨⟨⟨⟨⟨⟨⟨⟨⟨⟨⟨hg, hwe⟩, -⟩, hpos⟩, hlow⟩, hper⟩, hspeed⟩, htlow⟩, httop⟩, hxlow⟩, hxtop⟩, hstep⟩ := hr
    have hcode := ReportMode.code_range hmode
    have hlv := Level.byte_code hlevel
    have hflags : ¬ (fl.getLsbD 2 = true ∧ fl.getLsbD 3 = true) := fun ⟨h2, h3⟩ => by
      rw [Summary.ofCode?_both_flags fl h2 h3] at hsummary
      cases hsummary
    have hwe0 : we ≠ 0 := by rintro rfl; simp at hwe
    have hmo0 : mo ≠ 0 := by rintro rfl; simp at hcode
    have hlv0 : ¬ (lv ≠ 0 ∧ lv ≠ 1 ∧ lv ≠ 0xFF) := by tauto
    simp only [hwe0, hmo0, hflags, hlv0, false_or, or_false] at h
    omega
  next => rfl

/-- Settles O29: the frame is counted, and no report comes of its payload. -/
theorem reportRefused : Obligations.ReportRefused := by
  intro s moment station sq gr we po pe mo fl v1 v0 t1 t0 w1 w0 st lv cc ho hlow htop hne hown hbad
  rw [ho.exec_reportArrival moment hlow htop hne rfl hown, State.reportArrives, parseReport_eq_none sq cc hbad]

end Reports

end Sys2Proof.Machine
end

section
/-! SUPPORT. The first report of a peer's test (R145, R147, R148, R152 to R155). -/

namespace Sys2Proof.Machine

section Begins

variable {s : State} {k : Nat} {e : PeerEntry} {o : Slot} {f : FaultUnit}

/-- The slot holds no observation of peer k but one with the final mark (R152). -/
theorem Slot.finalFor_iff
    (hp : ∀ sign n, o ≠ .pending k sign n)
    (hc : ∀ sign base n succ final, o = .counting k sign base n succ final → final = true) :
    o.finalFor k = true ↔ o.peer? = some k := by
  cases o with
  | empty => simp [Slot.finalFor, Slot.peer?]
  | pending p sign n =>
    have hne : p ≠ k := fun h => hp sign n (h ▸ rfl)
    simp [Slot.finalFor, Slot.peer?, hne]
  | counting p sign base n succ final =>
    by_cases h : p = k
    · have := hc sign base n succ final (h ▸ rfl)
      simp [Slot.finalFor, Slot.peer?, h, this]
    · simp [Slot.finalFor, Slot.peer?, h]

theorem Slot.finalFor_of_ne (h : o.peer? ≠ some k) : o.finalFor k = false := by
  cases o <;> simp_all [Slot.finalFor, Slot.peer?]

/-- A transition of a peer that the slot holds no observation of: it arms an EMPTY slot, and is missed in TEST and over
another peer's observation (R147, R148). -/
theorem State.told_transition (hk : 1 ≤ k ∧ k ≤ 40) (hp : o.peer? ≠ some k) (sign : Sign) :
    (s.told k e o f).transition k sign =
      if o = .empty ∧ s.control.mode ≠ .test then s.told k e (.pending k sign s.handler.tuning.couplingWindow) f
      else s.told k e.missedOnce o f := by
  obtain ⟨ho, -, hc, hh, -⟩ := s.told_frame k e o f
  have hmode : (s.told k e o f).control.mode = s.control.mode := by rw [hc]
  unfold State.transition
  rw [hmode, ho, State.told_countMissed hk]
  by_cases hm : s.control.mode = .test
  · simp [hm]
  · cases o with
    | empty =>
      rw [if_neg hm, if_pos ⟨rfl, hm⟩, ← hh]
      exact State.told_slot _
    | pending p _ _ =>
      have hne : p ≠ k := by simpa [Slot.peer?] using hp
      simp [hm, hne]
    | counting p _ _ _ succ _ =>
      have hne : p ≠ k := by simpa [Slot.peer?] using hp
      cases succ <;> simp [hm, hne]

/-- The entry at the first report of a test: followed, its tallies zeroed (R145). -/
def PeerEntry.followed (e : PeerEntry) (missed : Nat) : PeerEntry :=
  { e with marker := true, seen := 0, contrary := 0, quiet := 0, missed := missed }

/-- The slot after a transition from level 0 to this level into a free slot (R147). -/
def Level.arming (l : Level) (k window : Nat) : Slot :=
  match l with
  | .plus => .pending k .up window
  | .minus => .pending k .down window
  | .zero => .empty

/-- A test's first report with no verdict waiting (R145, R147, R148). -/
theorem State.told_testStart (hk : 1 ≤ k ∧ k ≤ 40) (hp : o.peer? ≠ some k) (level : Level) :
    (s.told k e o f).testStart k level =
      s.told k
        (e.followed (if level ≠ .zero ∧ ¬ (o = .empty ∧ s.control.mode ≠ .test) then 1 else 0))
        (if o = .empty ∧ s.control.mode ≠ .test then level.arming k s.handler.tuning.couplingWindow else o) f := by
  obtain ⟨ho, -⟩ := s.told_frame k e o f
  have hmissed : (e.followed 0).missedOnce = e.followed 1 := rfl
  unfold State.testStart
  simp only [ho, Slot.finalFor_of_ne hp, Bool.false_eq_true, if_false, State.told_peer hk, State.told_setPeer]
  show (s.told k (e.followed 0) o f).levelChange k .zero level = _
  cases level with
  | zero =>
    have hslot : (if o = .empty ∧ s.control.mode ≠ .test then Slot.empty else o) = o := by
      split
      next h => exact h.1.symm
      next => rfl
    simp [State.levelChange, levelStep, Level.arming, hslot]
  | plus =>
    simp only [State.levelChange, levelStep, Level.toInt, Level.arming, Int.reduceLT, if_true,
      State.told_transition hk hp, hmissed]
    split <;> simp [*]
  | minus =>
    simp only [State.levelChange, levelStep, Level.toInt, Level.arming, Int.reduceLT, if_true, if_false,
      State.told_transition hk hp, hmissed]
    split <;> simp [*]

/-- A test's first report over an observation with the final mark: the verdict is given first (R152). -/
theorem State.told_testStart_final (hk : 1 ≤ k ∧ k ≤ 40) (hp : o.finalFor k = true) (hw : f.warns .couplingMismatch)
    (level : Level) :
    (s.told k e o f).testStart k level =
      (s.told k e.concluded .empty
        (if s.Disagrees e.concluded then f.warned .couplingMismatch k s.control.evaluations else f)).testStart k
          level := by
  obtain ⟨ho, -⟩ := s.told_frame k e o f
  have hnone (t : State) (ht : t.observation = .empty) : t.observation.finalFor k = false := by rw [ht]; rfl
  rw [← State.told_giveVerdict hk hw, ← State.told_emptySlot]
  unfold State.testStart
  rw [ho, if_pos hp, hnone ((s.told k e o f).emptySlot.giveVerdict k) (by simp [State.emptySlot])]
  rfl

/-- Settles O30: the break is told first, then a waiting verdict given, then the test begins. -/
theorem peerTestBegins : Obligations.PeerTestBegins := by
  intro s moment station r old ho hlow htop hne hr hown hold hmode hmode' hunsteady hmismatch hpending hcounting
    k e waiting taken judged told slot free
  have hk : 1 ≤ k ∧ k ≤ 40 := ⟨hlow, htop⟩
  have hfinal : s.observation.finalFor k = true ↔ waiting :=
    Slot.finalFor_iff hpending fun sign base n succ final h => (hcounting sign base n succ final h).1
  have hmarker (hw : s.observation.finalFor k = true) : e.marker = true := by
    cases hobs : s.observation with
    | empty => simp [hobs, Slot.finalFor] at hw
    | pending p sign n => simp [hobs, Slot.finalFor] at hw
    | counting p sign base n succ final =>
      obtain ⟨rfl, -⟩ : p = k ∧ final = true := by simpa [hobs, Slot.finalFor] using hw
      exact (hcounting sign base n succ final hobs).2
  have hempty (hw : waiting) : slot = .empty := if_pos hw
  have hkept (hw : ¬ waiting) : slot = s.observation := if_neg hw
  have hslot : slot.peer? ≠ some k := by
    by_cases hw : waiting
    · rw [hempty hw]
      exact nofun
    · rw [hkept hw]
      exact hw
  have hupdate (t : State) : t.observeUpdate k (e.stored.map Report.contents) r.contents
      = t.testStart k r.contents.testLevel := by
    rw [show e.stored = some old from hold]
    exact State.observeUpdate_begins hmode hmode'
  rw [ho.exec_report moment hlow htop hne hr hown]
  suffices htaken : (s.heard moment).takeReport k r =
      (State.told (s.heard moment) k judged slot
        (if e.broken r = false ∧ waiting ∧ s.Disagrees judged then
          told.warned .couplingMismatch k s.control.evaluations else told)).testStart k r.contents.testLevel by
    rw [htaken, State.told_testStart hk hslot]
    rfl
  by_cases hb : e.broken r = true
  · have hslot' : s.observation.unfollowed e.marker k = slot := by
      by_cases hw : waiting
      · rw [hempty hw]
        exact if_pos ⟨hmarker (hfinal.mpr hw), hw⟩
      · rw [hkept hw]
        exact if_neg fun h => hw h.2
    have hjudged : judged = taken.unfollowed := if_pos hb
    have htold : told = if e.state = .qualified then s.fault.warned .peerUnsteady k s.control.evaluations
        else s.fault := by
      simp only [told, hb, true_and]
    rw [if_neg fun h => Bool.false_ne_true (h.1.symm.trans hb), hjudged, htold, ← hslot',
      State.takeReport_broken (s := s.heard moment) hk hb hunsteady]
    exact hupdate _
  · have hb : e.broken r = false := by simpa using hb
    have htold : told = s.fault := if_neg fun h => Bool.false_ne_true (hb.symm.trans h.1)
    rw [State.takeReport_unbroken (s := s.heard moment) hb, htold]
    refine (hupdate _).trans ?_
    by_cases hw : waiting
    · have hjudged : judged = taken.concluded := (if_neg (by simp [hb])).trans (if_pos hw)
      rw [hjudged, hempty hw]
      simp only [hb, hw, true_and]
      exact State.told_testStart_final (s := s.heard moment) hk (hfinal.mpr hw) hmismatch r.contents.testLevel
    · have hjudged : judged = taken := (if_neg (by simp [hb])).trans (if_neg hw)
      rw [hjudged, hkept hw, if_neg fun h => hw h.2.1]
      rfl

end Begins

end Sys2Proof.Machine
end

section
/-! SUPPORT. The watchdog: expired, not due, and re-armed by a report (R55, R57 to R60, R63, R155). -/

namespace Sys2Proof.Machine

section Watchdog

variable {s : State} {k : Nat}

/-- A watchdog that is disarmed, stopped or short of its deadline does not expire (R57, R58). -/
theorem State.watchdogDue_early {moment : Nat}
    (h : s.control.mode.lineOn = false ∨ ∀ d ∈ (s.peer k).deadline, max s.clock moment < d) :
    s.watchdogDue { moment := moment, station := k } = s := by
  rcases h with hoff | hlate
  · exact State.watchdogDue_off hoff _
  · unfold State.watchdogDue
    split
    next d _ hd => rw [if_neg (Nat.not_le.mpr (hlate d hd))]
    next => rfl

/-- Only a key of the table has an armed watchdog (R58). -/
theorem State.station_of_deadline {d : Nat} (h : (s.peer k).deadline = some d) : 1 ≤ k ∧ k ≤ 40 := by
  by_contra hk
  have hout : k ∉ stations := by simpa [stations, List.mem_range'_1, Nat.lt_succ_iff] using hk
  rw [s.peer_outside hout] at h
  cases h

/-- The entry that an expiry leaves (R59, R155). -/
theorem PeerEntry.lapse_unfollowed (e : PeerEntry) :
    e.lapse.unfollowed =
      { e with
        state := .probation, passCount := 0, stale := true, deadline := none, marker := false
        verdict := if e.marker then some .undetermined else e.verdict } := by
  rw [PeerEntry.unfollowed_eq]
  rfl

/-- An expiry with PEER_LOST in WARN class (R59, R63). -/
theorem State.expire_warn (hk : 1 ≤ k ∧ k ≤ 40) (hw : s.fault.warns .peerLost) :
    s.expire k =
      s.told k (s.peer k).lapse.unfollowed (s.observation.unfollowed (s.peer k).marker k)
        (if (s.peer k).state = .qualified then s.fault.warned .peerLost k s.control.evaluations else s.fault) :=
  State.told_demoted (e := (s.peer k).lapse) hk hw .watchdog _

/-- Settles O33: an expiry is a demotion; a report taken re-arms the deadline past its own moment. -/
theorem watchdogLapsesPeer : Obligations.WatchdogLapsesPeer := by
  refine ⟨?expires, fun s k moment h => ?early, ?rearmed⟩
  case expires =>
    intro s k moment d hon hd hdue hw e
    have hk := State.station_of_deadline hd
    have hexpire : s.watchdogDue { moment := moment, station := k }
        = State.expire { s with clock := max s.clock moment } k := by
      simp only [State.watchdogDue, hon, hd, if_pos hdue]
    have hwarned := State.expire_warn (s := { s with clock := max s.clock moment }) hk hw
    rw [PeerEntry.lapse_unfollowed] at hwarned
    exact congrArg _ (hexpire.trans hwarned)
  case early =>
    refine congrArg _ (State.watchdogDue_early (h.imp (fun hm => ?_) id))
    rw [hm]
    rfl
  case rearmed =>
    intro s t moment station r ho hlow htop hne hr hown ht
    rw [ho.exec_report moment hlow htop hne hr hown] at ht
    obtain rfl := Host.Outcome.next.inj ht
    refine congrArg _ (State.watchdogDue_early (.inr fun d hd => ?_))
    have hperiod : 5 ≤ r.shape.period := by
      simp only [Report.inRange, Bool.and_eq_true, decide_eq_true_eq] at hr
      tauto
    have htable := State.sameTable_takeReport (s.heard moment) station.toNat r station.toNat
    have hdeadline : ((s.heard moment).takeReport station.toNat r |>.peer station.toNat).deadline
        = some (max s.clock moment + 2 * r.shape.period * 1000) := by
      rw [State.peer_setPeer, if_pos ⟨rfl, hlow, htop⟩] at htable
      exact congrArg PeerEntry.deadline htable
    have hclock : ((s.heard moment).takeReport station.toNat r).clock = max s.clock moment := by simp
    rw [hclock]
    rw [hdeadline] at hd
    obtain rfl := Option.mem_some_iff.mp hd
    omega

end Watchdog

end Sys2Proof.Machine
end

section
/-! SUPPORT. READ PEER and READ PEER_NEXT (R68, R69, R181, R193). -/

namespace Sys2Proof.Machine

/-! ### READ of any item (R181) -/

/-- READ of an item with data to answer with. -/
theorem exec_read_done {c : Instr} {s : State} {h : DirectiveHead} {item index : Byte} {rest data : List Byte}
    (hd : directiveOf c = some (h, 7, item :: index :: rest)) (ht : s.Takes h (2 + rest.length))
    (hdata : (s.tookDirective h).readItem item.toNat index.toNat = some data) :
    exec c s = .next ((s.tookDirective h).answered h .done data false) :=
  exec_taken (r := { outcome := .done, data := data, node := s.tookDirective h }) hd
    (takes_of_eq ht (Nat.add_comm 2 rest.length))
    ((State.reply_read _ item index rest).trans (by simp only [State.doRead, hdata])) ht.1.1

/-- READ of an absent item, or of an index that names none. -/
theorem exec_read_bad {c : Instr} {s : State} {h : DirectiveHead} {item index : Byte} {rest : List Byte}
    (hd : directiveOf c = some (h, 7, item :: index :: rest)) (ht : s.Takes h (2 + rest.length))
    (hnone : (s.tookDirective h).readItem item.toNat index.toNat = none) :
    exec c s = .next ((s.tookDirective h).answered h .badValue [] false) :=
  exec_taken (r := refuse .badValue (s.tookDirective h)) hd (takes_of_eq ht (Nat.add_comm 2 rest.length))
    ((State.reply_read _ item index rest).trans (by simp only [State.doRead, hnone])) ht.1.1

/-- An answer tells its data. -/
theorem State.answered_data_inj {s : State} {h : DirectiveHead} {o : AnswerOutcome} {data data' : List Byte} {b : Bool}
    (he : s.answered h o data b = s.answered h o data' b) : data = data' := by
  have hqueue := congrArg (fun t : State => t.handler.queue) he
  simpa [State.answered] using hqueue

/-! ### An entry's data (R68, R193) -/

section Peer

variable {s : State} {h : DirectiveHead} {index : Byte} {rest : List Byte}

theorem State.isKey_iff (s : State) (k : Nat) : s.isKey k = true ↔ 1 ≤ k ∧ k ≤ 40 ∧ k ≠ s.own := by
  have hmax : Config.nodeMax = 40 := rfl
  simp [State.isKey, hmax, and_assoc]

/-- READ PEER of a key of the table answers with its entry's data. -/
theorem exec_readPeer_key (ht : s.Takes h (2 + rest.length)) (hk : s.isKey index.toNat = true) :
    exec (.readPeer h (index :: rest)) s = .next
      ((s.tookDirective h).answered h .done ((s.peer index.toNat).data (max s.clock h.moment)) false) := by
  refine exec_read_done (item := 2) rfl ht ?_
  exact if_pos hk

theorem PeerEntry.data_absent {e : PeerEntry} (h : e.state = .absent) (now : Nat) : e.data now = [0] := by
  unfold PeerEntry.data
  rw [h]
  rfl

/-- An entry's stored report is laid out as REPORT lays it out (R68, R193). -/
theorem PeerEntry.data_heard {e : PeerEntry} {r : Report} (h : e.state ≠ .absent) (hr : e.stored = some r) (now : Nat) :
    e.data now =
      [byte e.state.code, byte e.passCount, byte e.disqualification, flagByte e.stale] ++ composeReport r
        ++ optionalCode (e.deadline.map (remaining now))
        ++ [flagByte e.marker, byte e.seen, byte e.contrary, byte e.quiet, byte e.missed]
        ++ optionalCode (e.verdict.map CouplingVerdict.code) := by
  have hdata : e.data now = e.fields now r := by
    unfold PeerEntry.data
    cases hs : e.state <;> simp_all
  simp [hdata, PeerEntry.fields, composeReport]

/-! ### The next entry (R69) -/

/-- A key above this one whose entry is not ABSENT (R69). -/
def State.HeardAbove (s : State) (k j : Nat) : Prop := k < j ∧ j ≤ 40 ∧ j ≠ s.own ∧ (s.peer j).state ≠ .absent

/-- What `nextPeer` looks for. -/
theorem State.heardAbove_iff (s : State) (k j : Nat) :
    s.HeardAbove k j ↔ j ∈ stations ∧ (decide (k < j) && s.isKey j && decide ((s.peer j).state ≠ .absent)) = true := by
  simp only [State.HeardAbove, stations, List.mem_range'_1, Bool.and_eq_true, decide_eq_true_eq, State.isKey_iff]
  constructor
  · rintro ⟨h1, h2, h3, h4⟩
    exact ⟨by omega, ⟨h1, by omega, h2, h3⟩, h4⟩
  · rintro ⟨-, ⟨h1, -, h2, h3⟩, h4⟩
    exact ⟨h1, h2, h3, h4⟩

theorem State.nextPeer_none {k : Nat} (hnone : ∀ j, ¬ s.HeardAbove k j) : s.nextPeer k = none :=
  List.find?_eq_none.mpr fun j hj hp => hnone j ((s.heardAbove_iff k j).mpr ⟨hj, hp⟩)

theorem State.nextPeer_first {k j : Nat} (hj : s.HeardAbove k j) (hfirst : ∀ i, s.HeardAbove k i → j ≤ i) :
    s.nextPeer k = some j := by
  obtain ⟨hmem, hp⟩ := (s.heardAbove_iff k j).mp hj
  refine List.find?_range'_eq_some.mpr ⟨hp, hmem, fun i hlow hi => ?_⟩
  by_contra hq
  have hrange : i ∈ stations := by
    simp only [stations, List.mem_range'_1] at hmem ⊢
    omega
  exact absurd (hfirst i ((s.heardAbove_iff k i).mpr ⟨hrange, by simpa using hq⟩)) (by omega)

/-- READ PEER_NEXT with an index in range (R69). -/
theorem exec_readPeerNext (ht : s.Takes h (2 + rest.length)) (hi : index.toNat ≤ 40) :
    exec (.readPeerNext h (index :: rest)) s = .next
      ((s.tookDirective h).answered h .done ((s.tookDirective h).peerNextData index.toNat) false) := by
  refine exec_read_done (item := 3) rfl ht ?_
  exact if_pos hi

/-- Settles O50: the entry's data as READ PEER gives it, and the first key that READ PEER_NEXT finds. -/
theorem readPeerData : Obligations.ReadPeerData := by
  refine ⟨?peer, ?next⟩
  case peer =>
    intro s h index rest ht k e now reads flag state verdict watchdog
    refine ⟨fun hk => ?_, fun hlow htop hne habsent => ?_, fun r hlow htop hne hheard hr => ?_⟩
    · refine exec_read_bad (item := 2) rfl ht ?_
      have hkey : s.isKey k = false := by
        rw [Bool.eq_false_iff, Ne, State.isKey_iff]
        omega
      exact if_neg (Bool.eq_false_iff.mp hkey)
    · have hdone := exec_readPeer_key ht ((s.isKey_iff k).mpr ⟨hlow, htop, hne⟩)
      rwa [PeerEntry.data_absent habsent] at hdone
    · have hdone := exec_readPeer_key ht ((s.isKey_iff k).mpr ⟨hlow, htop, hne⟩)
      rw [PeerEntry.data_heard hheard hr] at hdone
      have hstate : byte e.state.code = state := by
        simp only [state]
        cases e.state <;> rfl
      have hverdict : optionalCode (e.verdict.map CouplingVerdict.code) = verdict := by
        simp only [verdict]
        rcases e.verdict with _ | _ | _ | _ | _ <;> rfl
      have hwatchdog : optionalCode (e.deadline.map (remaining now)) = watchdog := by
        simp only [watchdog]
        cases e.deadline <;> rfl
      rw [← hstate, ← hverdict, ← hwatchdog]
      exact hdone
  case next =>
    intro s h index rest ht reads heardFrom
    have hdata (hi : index.toNat ≤ 40) {data : List Byte}
        (hd : (s.tookDirective h).peerNextData index.toNat = data) : reads .done data :=
      hd ▸ exec_readPeerNext ht hi
    refine ⟨fun hi => ?_, fun hi hnone => hdata hi ?_, fun k data hi hk hfirst hread => hdata hi ?_⟩
    · exact exec_read_bad (item := 3) rfl ht (if_neg (by omega))
    · have hnext : (s.tookDirective h).nextPeer index.toNat = none := State.nextPeer_none (s := s.tookDirective h) hnone
      simp only [State.peerNextData, hnext]
    · have hnext : (s.tookDirective h).nextPeer index.toNat = some k.toNat :=
        State.nextPeer_first (s := s.tookDirective h) hk hfirst
      have ⟨_, htop, hne, _⟩ := hk
      have hkey : s.isKey k.toNat = true := (s.isKey_iff _).mpr ⟨by omega, htop, hne⟩
      have hsame : (s.peer k.toNat).data (max s.clock h.moment) = data := by
        rw [exec_readPeer_key ht hkey] at hread
        exact State.answered_data_inj (Host.Outcome.next.inj hread)
      have hbyte : byte k.toNat = k := BitVec.ofNat_toNat ..
      simp only [State.peerNextData, hnext, hbyte]
      exact congrArg _ hsame

end Peer

end Sys2Proof.Machine
end

section
/-! SUPPORT. What the draw verifier finds after the events of the peer table and the other works of an evaluation: none
of them sends DRAW_TOL (R121), and but for an identity clash none takes the line out of work (R97, R168). -/

namespace Sys2Proof.Machine

/-! ### The relation -/

/-- DRAW_TOL's flag and count in `g` are those of `f`, and the classes and detect masks too. -/
structure FaultUnit.SparesDraw (g f : FaultUnit) : Prop where
  status : g.status.getLsbD 10 = f.status.getLsbD 10
  count : g.counts[10] = f.counts[10]
  classMap : g.classMap = f.classMap
  detectMask : g.detectMask = f.detectMask

/-- The node `t` comes of `s` with all that the draw verifier reads besides the peer table as it was, and no DRAW_TOL
sent. -/
structure State.SparesDraw (t s : State) : Prop where
  startUnit : t.startUnit = s.startUnit
  tracker : t.tracker = s.tracker
  handler : t.handler = s.handler
  evaluations : t.control.evaluations = s.control.evaluations
  draw : t.draw = s.draw
  fault : t.fault.SparesDraw s.fault
  lineOn : t.control.mode.lineOn = s.control.mode.lineOn

theorem FaultUnit.SparesDraw.refl (f : FaultUnit) : f.SparesDraw f := ⟨rfl, rfl, rfl, rfl⟩

theorem FaultUnit.SparesDraw.trans {f g h : FaultUnit} (a : h.SparesDraw g) (b : g.SparesDraw f) : h.SparesDraw f :=
  ⟨a.status.trans b.status, a.count.trans b.count, a.classMap.trans b.classMap, a.detectMask.trans b.detectMask⟩

theorem State.SparesDraw.refl (s : State) : s.SparesDraw s := ⟨rfl, rfl, rfl, rfl, rfl, .refl _, rfl⟩

theorem State.SparesDraw.trans {s t u : State} (h : u.SparesDraw t) (h' : t.SparesDraw s) : u.SparesDraw s :=
  ⟨h.startUnit.trans h'.startUnit, h.tracker.trans h'.tracker, h.handler.trans h'.handler,
    h.evaluations.trans h'.evaluations, h.draw.trans h'.draw, h.fault.trans h'.fault, h.lineOn.trans h'.lineOn⟩

/-- An operation that leaves the draw verifier, what it reads and the fault unit alone. -/
theorem State.SparesDraw.of_eq {s t : State} (h : t.startUnit = s.startUnit ∧ t.tracker = s.tracker
    ∧ t.handler = s.handler ∧ t.control.evaluations = s.control.evaluations ∧ t.draw = s.draw ∧ t.fault = s.fault
    ∧ t.control.mode = s.control.mode := by simp) : t.SparesDraw s := by
  obtain ⟨hu, ht, hh, he, hd, hf, hm⟩ := h
  exact ⟨hu, ht, hh, he, hd, hf ▸ .refl _, by rw [hm]⟩

/-- A condition that chooses between two operations. -/
theorem State.SparesDraw.ite {s t u : State} {c : Prop} [Decidable c] (ht : c → t.SparesDraw s)
    (hu : ¬ c → u.SparesDraw s) : (if c then t else u).SparesDraw s := by
  split
  · exact ht ‹_›
  · exact hu ‹_›

/-! ### Notices -/

/-- A notice of another kind counted. -/
theorem FaultUnit.sparesDraw_count (f : FaultUnit) {n : Notice} (h : n.kind ≠ .drawTol) :
    (f.count n).SparesDraw f := by
  have hplace : n.kind.flag.getLsbD 10 = false ∧ n.kind.number - 1 ≠ 10 := by
    cases hk : n.kind with
    | drawTol => exact absurd hk h
    | _ => decide
  obtain ⟨hbit, hindex⟩ := hplace
  refine ⟨?_, by simp [FaultUnit.count, hindex], rfl, rfl⟩
  rw [show (f.count n).status = f.status ||| n.kind.flag from rfl, BitVec.getLsbD_or, hbit, Bool.or_false]

/-- What a set of notices of other kinds does to the fault unit. -/
theorem State.takeNotices_fault_sparesDraw (s : State) {ns : List Notice} (h : ∀ n ∈ ns, n.kind ≠ .drawTol) :
    (s.takeNotices ns).fault.SparesDraw s.fault := by
  have hcount : ((s.fault.live ns).foldl FaultUnit.count s.fault).SparesDraw s.fault :=
    List.foldlRecOn (motive := fun f : FaultUnit => f.SparesDraw s.fault) _ _ (.refl _) fun f hf n hn =>
      (f.sparesDraw_count (h n (List.mem_of_mem_filter hn))).trans hf
  refine ⟨?_, ?_, by simp, by simp⟩ <;> rw [State.takeNotices_fault]
  · simpa [State.recordNotices, FaultUnit.driveLines] using hcount.status
  · simpa [State.recordNotices, FaultUnit.driveLines] using hcount.count

/-- A set of notices of other kinds, where the line works on or not as before. -/
theorem State.sparesDraw_takeNotices_of_lineOn {s : State} {ns : List Notice} (h : ∀ n ∈ ns, n.kind ≠ .drawTol)
    (hon : (s.takeNotices ns).control.mode.lineOn = s.control.mode.lineOn) : (s.takeNotices ns).SparesDraw s :=
  ⟨by simp, by simp, by simp, by simp, by simp, s.takeNotices_fault_sparesDraw h, hon⟩

/-- A set of notices of other kinds, none of which leads to HOLD. -/
theorem State.sparesDraw_takeNotices (s : State) {ns : List Notice}
    (h : ∀ n ∈ ns, n.kind ≠ .drawTol ∧ n.kind.fixed = false) : (s.takeNotices ns).SparesDraw s :=
  State.sparesDraw_takeNotices_of_lineOn (fun n hn => (h n hn).1)
    (s.tableAgrees_takeNotices ns fun n hn => (h n hn).2).lineOn

theorem State.sparesDraw_takeNotice (s : State) {n : Notice} (h : n.kind ≠ .drawTol ∧ n.kind.fixed = false) :
    (s.takeNotice n).SparesDraw s :=
  s.sparesDraw_takeNotices (by simpa using h)

/-! ### The identity clash (R168) -/

theorem FaultUnit.requestsDrop_single (f : FaultUnit) (n : Notice) :
    f.requestsDrop [n] = (holds f.classMap n.kind && !holds f.detectMask n.kind) := by
  cases hd : holds f.detectMask n.kind <;> simp [FaultUnit.requestsDrop, FaultUnit.live, hd]

/-- A drop that names CONFIG or ID_CLASH leads to HOLD from every mode (R97, R110). -/
theorem State.tripDrop_hold_mode (s : State) : (s.tripDrop true).control.mode = .hold := by
  unfold State.tripDrop State.toHold
  split <;> simp [*]

/-- ID_CLASH takes the line out of work exactly where it requests a drop. -/
theorem State.takeNotice_idClash_lineOn (s : State) (source : Nat) :
    (s.takeNotice (notice .idClash source)).control.mode.lineOn
      = (s.control.mode.lineOn && !s.fault.requestsDrop [notice .idClash source]) := by
  unfold State.takeNotice State.takeNotices
  cases hdrop : s.fault.requestsDrop [notice .idClash source] with
  | false => simp
  | true =>
    have hhold : s.fault.dropsToHold [notice .idClash source] = true := by
      rw [FaultUnit.requestsDrop_single, Bool.and_eq_true, Bool.not_eq_true'] at hdrop
      simp only [FaultUnit.dropsToHold, FaultUnit.live, List.filter, hdrop.2, Bool.not_false, List.any_cons,
        List.any_nil, Bool.or_false]
      show Kind.idClash.fixed = true
      decide
    rw [hhold]
    simp [State.tripDrop_hold_mode, Mode.lineOn]

/-! ### The coupling observer -/

theorem State.sparesDraw_setPeer (s : State) (k : Nat) (e : PeerEntry) : (s.setPeer k e).SparesDraw s := .of_eq

theorem State.sparesDraw_levelChange (s : State) (k : Nat) (a b : Level) : (s.levelChange k a b).SparesDraw s := .of_eq

theorem State.sparesDraw_observeDemotion (s : State) (d : Demotion) : (s.observeDemotion d).SparesDraw s := .of_eq

theorem State.sparesDraw_giveVerdict (s : State) (k : Nat) : (s.giveVerdict k).SparesDraw s := by
  have hp := s.sparesDraw_setPeer k { s.peer k with verdict := some (s.peer k).judged, marker := false }
  exact .ite (fun _ => (State.sparesDraw_takeNotice _
    (show Kind.couplingMismatch ≠ .drawTol ∧ Kind.couplingMismatch.fixed = false by decide)).trans hp) fun _ => hp

theorem State.sparesDraw_testStart (s : State) (k : Nat) (l : Level) : (s.testStart k l).SparesDraw s := by
  refine (State.sparesDraw_levelChange _ k _ _).trans ((State.sparesDraw_setPeer _ k _).trans ?_)
  exact .ite (fun _ => (State.sparesDraw_giveVerdict _ k).trans .of_eq) fun _ => .refl s

theorem State.sparesDraw_testEnd (s : State) (k : Nat) : (s.testEnd k).SparesDraw s := by
  unfold State.testEnd
  split
  · exact .ite (fun _ => .of_eq) fun _ => s.sparesDraw_giveVerdict k
  · refine .ite (fun _ => ?_) fun _ => s.sparesDraw_giveVerdict k
    exact (State.sparesDraw_giveVerdict _ k).trans .of_eq
  · exact s.sparesDraw_giveVerdict k

theorem State.sparesDraw_observeUpdate (s : State) (k : Nat) (previous : Option Contents) (now : Contents) :
    (s.observeUpdate k previous now).SparesDraw s := by
  unfold State.observeUpdate
  split
  · exact .refl s
  · split
    · exact .ite (fun _ => .of_eq) fun _ => .refl s
    · exact .ite (fun _ => s.sparesDraw_testEnd k) fun _ => .refl s
    · exact s.sparesDraw_testStart k _
    · exact .refl s

theorem State.sparesDraw_observe (s : State) : s.observe.SparesDraw s := by
  unfold State.observe
  split
  · exact .refl s
  · exact .ite (fun _ => .of_eq) fun _ => .of_eq
  · exact .ite (fun _ => .of_eq) fun _ => .ite (fun _ => .of_eq) fun _ => .of_eq
  · exact .ite (fun _ => .of_eq) fun _ => .of_eq
  · exact (State.sparesDraw_giveVerdict _ _).trans .of_eq
  · exact (State.sparesDraw_giveVerdict _ _).trans .of_eq

/-! ### The events of the peer table -/

theorem State.sparesDraw_takeReport (s : State) (k : Nat) (r : Report) : (s.takeReport k r).SparesDraw s := by
  have hbreak : ∀ (t : State) (q : Bool), (t.afterBreak k q).SparesDraw t := fun t q =>
    (State.sparesDraw_observeDemotion _ _).trans
      (.ite (fun _ => t.sparesDraw_takeNotice
        (show Kind.peerUnsteady ≠ .drawTol ∧ Kind.peerUnsteady.fixed = false by decide)) fun _ => .refl t)
  have hp := s.sparesDraw_setPeer k ((s.peer k).take s.image.passThreshold s.clock r)
  exact (State.sparesDraw_observeUpdate _ k _ _).trans (.ite (fun _ => (hbreak _ _).trans hp) fun _ => hp)

theorem State.sparesDraw_reportArrives (s : State) (k : Nat) (p : List Byte) : (s.reportArrives k p).SparesDraw s := by
  unfold State.reportArrives
  split
  · exact s.sparesDraw_takeReport k _
  · exact .refl s

theorem State.sparesDraw_watchdogDue (s : State) (due : WatchdogDue) : (s.watchdogDue due).SparesDraw s := by
  have hexpire : ∀ (t : State) (k : Nat), (t.expire k).SparesDraw t := fun t k =>
    (State.sparesDraw_observeDemotion _ _).trans (.ite
      (fun _ => (State.sparesDraw_takeNotice _
        (show Kind.peerLost ≠ .drawTol ∧ Kind.peerLost.fixed = false by decide)).trans (t.sparesDraw_setPeer k _))
      fun _ => t.sparesDraw_setPeer k _)
  unfold State.watchdogDue
  split
  · exact .ite (fun _ => (hexpire _ _).trans .of_eq) fun _ => .refl s
  · exact .refl s

theorem State.sparesDraw_judgeBad (s : State) : s.judgeBad.SparesDraw s := by
  have hlose : ∀ t : State, t.loseStep.SparesDraw t := fun _ => .of_eq
  have hline : ∀ l : Line, ({ s with line := l } : State).SparesDraw s := fun _ => .of_eq
  unfold State.judgeBad
  refine .ite (fun _ => ?_) fun _ => (State.sparesDraw_takeNotice _ (by decide)).trans (hline _)
  exact (hlose _).trans ((State.sparesDraw_takeNotices _ (by decide)).trans (hline _))

/-- A REPORT frame taken by a node that agrees with one whose line it leaves in work. -/
theorem State.sparesDraw_receiveReport {s t : State} (h : s.TableAgrees t) (hc : s.fault.classMap = t.fault.classMap)
    (hd : s.fault.detectMask = t.fault.detectMask) (m : Nat) (k : BitVec 6) (p : List Byte)
    (hon : (s.receive m (contention 2 k) p).control.mode.lineOn = true) :
    (t.receive m (contention 2 k) p).SparesDraw t := by
  have hr : s.canReceive = t.canReceive := by simp only [State.canReceive, h.lineOn, h.rx]
  have hf : s.isOwnFrame (contention 2 k) p = t.isOwnFrame (contention 2 k) p := by
    unfold State.isOwnFrame; rw [h.attempt]
  have ho : (s.countGood m).own = (t.countGood m).own := by
    simp only [State.own, State.image, State.countGood, h.startUnit]
  have hcount : (t.countGood m).SparesDraw t := .of_eq ⟨rfl, rfl, rfl, rfl, rfl, rfl, rfl⟩
  unfold State.receive at hon ⊢
  rw [hr, hf] at hon
  split
  next htaken =>
    rw [if_pos htaken] at hon
    split
    next hgood =>
      rw [if_pos hgood, State.route_report, ho] at hon
      rw [State.route_report]
      split
      next hown =>
        rw [if_pos hown, State.takeNotice_idClash_lineOn, Bool.and_eq_true, Bool.not_eq_true',
          FaultUnit.requestsDrop_single] at hon
        have hstays : (t.countGood m).fault.requestsDrop [notice .idClash (t.countGood m).own] = false := by
          rw [FaultUnit.requestsDrop_single]
          show (holds t.fault.classMap _ && !holds t.fault.detectMask _) = false
          rw [← hc, ← hd]
          exact hon.2
        refine (State.sparesDraw_takeNotices_of_lineOn (by simp [notice]) ?_).trans hcount
        exact (State.takeNotice_idClash_lineOn _ _).trans (by rw [hstays]; simp)
      next => exact (State.sparesDraw_reportArrives _ _ _).trans hcount
    next => exact t.sparesDraw_judgeBad
  next => exact .refl t

/-- An event of the peer table taken by a node that agrees with one whose line it leaves in work. -/
theorem State.sparesDraw_takeTableEvent {s t : State} (h : s.TableAgrees t) (hc : s.fault.classMap = t.fault.classMap)
    (hd : s.fault.detectMask = t.fault.detectMask) (e : TableEvent)
    (hon : (s.takeTableEvent e).control.mode.lineOn = true) : (t.takeTableEvent e).SparesDraw t := by
  cases e with
  | report m k p => exact State.sparesDraw_receiveReport h hc hd m k p hon
  | badFrame => exact .ite (fun _ => t.sparesDraw_judgeBad) fun _ => .refl t
  | faultyBitAbort => exact .ite (fun _ => (State.sparesDraw_judgeBad _).trans .of_eq) fun _ => .refl t
  | watchdogExpiry due => exact t.sparesDraw_watchdogDue due

/-! ### The works of an evaluation -/

theorem State.sparesDraw_excitationWork (s : State) : s.excitationWork.fault.SparesDraw s.fault := by
  unfold State.excitationWork
  split
  · split
    · exact (State.takeNotices_fault_sparesDraw _ (by decide)).trans (by simpa using .refl _)
    · simpa using .refl _
  · exact .refl _

/-- Every work but the draw verifier's. -/
theorem State.sparesDraw_work (began : Mode) (s : State) {w : EvalWork} (hw : w ≠ .drawVerifier) :
    (s.work began w).SparesDraw s := by
  suffices h : (s.work began w).draw = s.draw ∧ (s.work began w).fault.SparesDraw s.fault from
    ⟨by simp, by simp, by simp, by simp, h.1, h.2, (s.tableAgrees_work began w).lineOn⟩
  cases w with
  | drawVerifier => exact absurd rfl hw
  | accumulatorClose => exact ⟨rfl, .refl _⟩
  | staleNotice =>
    have h : (s.staleNotice began).SparesDraw s := .ite (fun _ => s.sparesDraw_takeNotice (by decide)) fun _ => .refl s
    exact ⟨h.draw, h.fault⟩
  | fadeStep => exact ⟨by simp [State.work], by simpa [State.work] using .refl _⟩
  | balanceEngine =>
    have hkind : ∀ n ∈ s.balanceNotices, n.kind ≠ .drawTol := by
      intro n hn
      simp only [State.balanceNotices, List.mem_append] at hn
      rcases hn with (hn | hn) | hn <;> split at hn <;> simp at hn <;> subst hn <;> exact nofun
    have h : s.balanceWork.fault.SparesDraw s.fault := by
      unfold State.balanceWork
      split
      · exact State.takeNotices_fault_sparesDraw _ hkind
      · exact .refl _
    exact ⟨by simp [State.work], h⟩
  | excitationUnit => exact ⟨by simp [State.work], s.sparesDraw_excitationWork⟩
  | couplingObserver =>
    have h : s.observeEvaluation.SparesDraw s := .ite (fun _ => s.sparesDraw_observe) fun _ => .refl s
    exact ⟨h.draw, h.fault⟩

end Sys2Proof.Machine
end

section
/-! SUPPORT. The draw verifier's work at an evaluation, with an event of the peer table while it reads the table (R66,
R116 to R123). -/

namespace Sys2Proof.Machine

/-! ### The figures -/

/-- The speeds of the upstream set of these entries (R117). -/
def State.upstreamOf (s : State) (seen : Nat → PeerEntry) : List Nat :=
  if s.image.position < 2 then []
  else stations.filterMap fun k =>
    match (seen k).state, (seen k).stored with
    | .qualified, some r =>
      if k ≠ s.own ∧ r.shape.position + 1 = s.image.position ∧ r.contents.speedValid = true then
        some r.contents.speed
      else none
    | _, _ => none

/-- The draw verifier after the next evaluation, with these speeds of the upstream set (R118 to R121, R123). -/
def State.drawOf (s : State) (speeds : List Nat) : Draw :=
  let up := speeds.sum / speeds.length
  let own := s.tracker.speed
  let z := ((own : Int) - up) * 10000
  let draw := max (-9999) (min 9999 (z.sign * ((2 * z.natAbs + up) / (2 * up) : Nat)))
  let outcome : DrawOutcome :=
    if s.image.position < 2 then .unassessed .position
    else if s.tracker.state ≠ .locked then .unassessed .speed
    else if speeds = [] then .unassessed .noUpstream
    else if up < 100 then .unassessed .slow
    else .assessed own draw
  let run :=
    if s.image.position < 2 ∨ s.tracker.state ≠ .locked ∨ speeds = [] ∨ up < 100 then 0
    else if (s.handler.tuning.drawTolerance : Int) < (draw - s.handler.tuning.drawSetpoint).natAbs then
      min 255 (s.draw.run + 1)
    else 0
  { run := run
    result := some
      { evaluation := s.control.evaluations + 1, outcome := outcome, upstreamCount := speeds.length,
        upstreamSpeed := if speeds = [] then none else some up, run := run } }

theorem meanSpeed_eq (l : List Nat) : meanSpeed l = if l = [] then none else some (l.sum / l.length) := by
  cases l <;> simp [meanSpeed]

/-- The verifier's figures are these, on the speeds that it finds. -/
theorem State.verified_eq_drawOf {s t : State} (h : t.SparesDraw s.countEvaluation) :
    t.verified = s.drawOf t.upstream := by
  have himage : t.image = s.image := by rw [State.image, h.startUnit]; rfl
  have htracker : t.tracker = s.tracker := h.tracker
  have hhandler : t.handler = s.handler := h.handler
  have hdraw : t.draw = s.draw := h.draw
  have hevaluations : t.control.evaluations = s.control.evaluations + 1 := h.evaluations
  unfold State.verified State.drawOutcome State.drawOf
  simp only [himage, htracker, hhandler, hdraw, hevaluations, meanSpeed_eq, Tracker.valid, decide_eq_false_iff_not,
    achievedDraw, roundDiv, clampInt, Int.ofNat_lt]
  by_cases hp : s.image.position < 2
  · simp [hp, nextDrawRun]
  by_cases hl : s.tracker.state = .locked
  · by_cases hs : t.upstream = []
    · simp [hp, hl, hs, nextDrawRun]
    · by_cases hu : t.upstream.sum / t.upstream.length < 100
      · simp [hp, hl, hs, hu, nextDrawRun]
      · simp [hp, hl, hs, hu, nextDrawRun, satInc, Config.runMax]
  · simp [hp, hl, nextDrawRun]

/-! ### The table as the verifier sees it (R66) -/

theorem lookup_map_pair {β : Type} (f : Nat → β) (l : List Nat) (k : Nat) :
    (l.map fun j => (j, f j)).lookup k = if k ∈ l then some (f k) else none := by
  induction l with
  | nil => rfl
  | cons j l ih =>
    by_cases h : k = j
    · subst h; simp
    · simp [List.lookup_cons, ih, h, show (k == j) = false by simp [h]]

/-- With nothing read, the table as it stands. -/
theorem State.tableSeen_nil (s : State) : s.tableSeen [] = s.peers := by
  ext i hi : 1
  simp [State.tableSeen]

/-- The entries read by then as they stood in `t`, the others as they stand. -/
theorem State.peer_tableSeen (s t : State) (read : List Nat) {k : Nat} (hk : k ∈ stations) :
    State.peer { s with peers := s.tableSeen (read.map fun j => (j, t.peer j)) } k
      = if k ∈ read then t.peer k else s.peer k := by
  obtain ⟨hlow, htop⟩ : 1 ≤ k ∧ k < 41 := by simpa [stations] using hk
  have hplace : k - 1 < 40 := by omega
  have hback : k - 1 + 1 = k := by omega
  simp only [State.peer, State.tableSeen, hlow, if_true, Vector.getElem?_eq_getElem hplace, Option.getD_some,
    Vector.getElem_ofFn, lookup_map_pair, hback]
  split <;> simp

theorem PeerEntry.state_stored_of_table {e f : PeerEntry} (h : e.table = f.table) :
    e.state = f.state ∧ e.stored = f.stored :=
  ⟨show e.table.state = f.table.state by rw [h], show e.table.stored = f.table.stored by rw [h]⟩

/-- The speeds that the verifier finds are those of entries that agree with its own but for the observer's fields. -/
theorem State.upstream_eq_upstreamOf {s t : State} {seen : Nat → PeerEntry} (hunit : t.startUnit = s.startUnit)
    (htable : ∀ k ∈ stations, (t.peer k).table = (seen k).table) : t.upstream = s.upstreamOf seen := by
  have himage : t.image = s.image := by rw [State.image, hunit]; rfl
  have hown : t.own = s.own := congrArg Image.station himage
  unfold State.upstream State.upstreamOf
  rw [himage]
  split
  next => rfl
  next hp =>
    refine List.filterMap_congr fun k hk => ?_
    have hkey : t.isKey k = true ↔ k ≠ s.own := by
      have hrange : 1 ≤ k ∧ k < 41 := by simpa [stations] using hk
      rw [State.isKey_iff, hown]
      exact ⟨fun ⟨_, _, h⟩ => h, fun h => ⟨hrange.1, by omega, h⟩⟩
    obtain ⟨hstate, hstored⟩ := PeerEntry.state_stored_of_table (htable k hk)
    have hposition : ∀ r : Report, r.shape.position = s.image.position - 1 ↔ r.shape.position + 1 = s.image.position :=
      fun r => by omega
    rw [PeerEntry.upstream?, hstate, hstored]
    cases (seen k).state <;> cases (seen k).stored <;> dsimp only
    case qualified.some r => simp only [hkey, hposition, ite_and]
    all_goals exact ite_self none

/-! ### The work -/

/-- What one work brings about, with all events before or during it, and every other keeps, holds after the works of an
evaluation. -/
theorem State.runWorks_reach_during {P Q : State → Prop} {s : State} (o : List EvalWork) {during : List Interruption}
    {w : EvalWork} (hd : ∀ i ∈ during, i.before = w) (h : P s)
    (before : ∀ (v : EvalWork) (t : State), v ≠ w → P t → P (t.work s.control.mode v))
    (here : ∀ t : State, P t → Q (State.workDuring s.control.mode during t w))
    (later : ∀ (v : EvalWork) (t : State), v ≠ w → Q t → Q (t.work s.control.mode v)) : Q (s.runWorks o during) := by
  have hother : ∀ (v : EvalWork) (t : State), v ≠ w →
      State.workDuring s.control.mode during t v = t.work s.control.mode v := fun v t hv => by
    have hnone : (during.filter fun i => decide (i.before = v)) = [] :=
      List.filter_eq_nil_iff.mpr fun i hi => by simp [hd i hi, hv.symm]
    simp [State.workDuring, hnone, State.workSeeing]
  obtain ⟨l₁, l₂, hl⟩ := List.append_of_mem (mem_scheduleOf o w)
  have hnodup := hl ▸ scheduleOf_nodup o
  rw [List.nodup_append, List.nodup_cons] at hnodup
  obtain ⟨-, ⟨hw₂, -⟩, hw₁⟩ := hnodup
  rw [State.runWorks, hl, List.foldl_append, List.foldl_cons]
  have h₁ := List.foldlRecOn (motive := P) l₁ (State.workDuring s.control.mode during) h fun t ht v hv => by
    have hne : v ≠ w := hw₁ v hv w List.mem_cons_self
    exact hother v t hne ▸ before v t hne ht
  refine List.foldlRecOn (motive := Q) l₂ (State.workDuring s.control.mode during) (here _ h₁) fun t ht v hv => ?_
  have hne : v ≠ w := fun e => hw₂ (e ▸ hv)
  exact hother v t hne ▸ later v t hne ht

/-- The verifier's work on the table as it sees it; the table itself stays. -/
theorem State.workSeeing_draw (began : Mode) (s : State) (seen : List (Nat × PeerEntry)) :
    State.workSeeing began s seen .drawVerifier
      = { ({ s with peers := s.tableSeen seen } : State).drawWork with peers := s.peers } := by
  unfold State.workSeeing
  split
  next => rfl
  next h =>
    have hnil : seen = [] := by simpa using h
    have hpeers : s.drawWork.peers = s.peers := by simp
    subst hnil
    rw [State.tableSeen_nil]
    show s.drawWork = { s.drawWork with peers := s.peers }
    generalize s.peers = p at hpeers
    subst hpeers
    rfl

theorem State.takeNotice_drawTol (s : State) (h : s.fault.detectMask.getLsbD 10 = false) :
    (s.takeNotice (notice .drawTol 0)).fault.status.getLsbD 10 = true
      ∧ (s.takeNotice (notice .drawTol 0)).fault.counts[10] = min 255 (s.fault.counts[10] + 1) := by
  have hlive : holds s.fault.detectMask (notice .drawTol 0).kind = false := h
  obtain ⟨hstatus, hcounts⟩ := s.takeNotice_recorded hlive
  rw [hstatus, hcounts]
  simp [FaultUnit.raised, notice, Kind.number]

/-- The verifier's figures, and DRAW_TOL where its run comes to 4, and then only (R121). -/
theorem State.drawWork_spec {s : State} (hon : s.control.mode.lineOn = true) :
    s.drawWork.draw = s.verified
      ∧ (s.fault.detectMask.getLsbD 10 = false →
          if s.verified.run = 4 ∧ s.draw.run ≠ 4 then
            s.drawWork.fault.status.getLsbD 10 = true ∧ s.drawWork.fault.counts[10] = min 255 (s.fault.counts[10] + 1)
          else s.drawWork.fault.counts[10] = s.fault.counts[10]) := by
  rw [State.drawWork, if_pos hon]
  split
  next => exact ⟨by simp, State.takeNotice_drawTol { s with draw := s.verified }⟩
  next => exact ⟨rfl, fun _ => rfl⟩

/-! ### The evaluation -/

/-- From the verifier's work on, the node has this draw result, and DRAW_TOL is counted or not by it; and its table is
`u`'s but for the observer's fields. -/
structure State.Drawn (t s u : State) (d : Draw) : Prop where
  table : t.SameTable u
  draw : t.draw = d
  counted : s.fault.detectMask.getLsbD 10 = false →
    if d.run = 4 ∧ s.draw.run ≠ 4 then
      t.fault.status.getLsbD 10 = true ∧ t.fault.counts[10] = min 255 (s.fault.counts[10] + 1)
    else t.fault.counts[10] = s.fault.counts[10]

theorem State.Drawn.of_spares {t t' s u : State} {d : Draw} (h : t.Drawn s u d) (htable : t'.SameTable t)
    (hdraw : t'.draw = t.draw) (hfault : t'.fault.SparesDraw t.fault) : t'.Drawn s u d := by
  refine ⟨htable.trans h.table, hdraw.trans h.draw, ?_⟩
  rw [hfault.status, hfault.count]
  exact h.counted

/-- The verifier's work, in a node that has what it reads besides the table as in `s`. -/
theorem State.SparesDraw.drawWork {s t : State} (h : t.SparesDraw s.countEvaluation)
    (hon : s.control.mode.lineOn = true) :
    t.drawWork.draw = s.drawOf t.upstream
      ∧ (s.fault.detectMask.getLsbD 10 = false →
          if (s.drawOf t.upstream).run = 4 ∧ s.draw.run ≠ 4 then
            t.drawWork.fault.status.getLsbD 10 = true ∧ t.drawWork.fault.counts[10] = min 255 (s.fault.counts[10] + 1)
          else t.drawWork.fault.counts[10] = s.fault.counts[10]) := by
  have hspec := State.drawWork_spec (h.lineOn.trans hon)
  rwa [State.verified_eq_drawOf h, h.fault.detectMask, h.fault.count, h.draw] at hspec

/-- The verifier's work, in a node that has what it reads as in `s`, on a table that it sees with these entries. -/
theorem State.drawn_workSeeing {s t u : State} (hon : s.control.mode.lineOn = true)
    (h : t.SparesDraw s.countEvaluation) (htable : t.SameTable u) (began : Mode) (read : List (Nat × PeerEntry))
    {seen : Nat → PeerEntry}
    (hseen : ∀ k ∈ stations, (State.peer { t with peers := t.tableSeen read } k).table = (seen k).table) :
    (State.workSeeing began t read .drawVerifier).Drawn s u (s.drawOf (s.upstreamOf seen)) := by
  have hreader : State.SparesDraw { t with peers := t.tableSeen read } s.countEvaluation :=
    State.SparesDraw.trans (t := t) (.of_eq ⟨rfl, rfl, rfl, rfl, rfl, rfl, rfl⟩) h
  obtain ⟨hdraw, hcounted⟩ := hreader.drawWork hon
  have hfinds : State.upstream { t with peers := t.tableSeen read } = s.upstreamOf seen :=
    State.upstream_eq_upstreamOf hreader.startUnit hseen
  rw [hfinds] at hdraw hcounted
  rw [State.workSeeing_draw]
  exact ⟨fun k => htable k, hdraw, hcounted⟩

/-- The works of an evaluation bring about this draw result, where the verifier finds what it reads as in `s` and these
entries, whatever has gone before it. -/
theorem State.runWorks_drawn {s u : State} (order : List EvalWork) {during : List Interruption}
    (hd : ∀ i ∈ during, i.before = .drawVerifier) {d : Draw}
    (here : ∀ (began : Mode) (t : State), t.TableAgrees s → t.SparesDraw s.countEvaluation →
      (State.workDuring began during t .drawVerifier).Drawn s u d) :
    (s.countEvaluation.runWorks order during).Drawn s u d := by
  refine State.runWorks_reach_during (P := fun t => t.TableAgrees s ∧ t.SparesDraw s.countEvaluation)
    (Q := (·.Drawn s u d)) order hd ?_ ?_ ?_ ?_
  · exact ⟨⟨rfl, rfl, rfl, rfl, rfl, rfl, rfl, fun _ => rfl⟩, .refl _⟩
  · exact fun v t hv ⟨ha, hs⟩ => ⟨(t.tableAgrees_work _ v).trans ha, (t.sparesDraw_work _ hv).trans hs⟩
  · exact fun t ⟨ha, hs⟩ => here _ t ha hs
  · intro v t hv ht
    have hspare := t.sparesDraw_work s.countEvaluation.control.mode hv
    exact ht.of_spares (t.tableAgrees_work _ v).entries hspare.draw hspare.fault

/-- What follows the works leaves the table, the draw verifier and DRAW_TOL. -/
theorem State.Drawn.exec_evaluation {s u : State} {order : List EvalWork} {during : List Interruption} {d : Draw}
    (hon : s.control.mode.lineOn = true) (h : (s.countEvaluation.runWorks order during).Drawn s u d) :
    ∃ t, exec (.evaluation { order := order, during := during }) s = .next t ∧ t.Drawn s u d := by
  have hm : s.control.mode ≠ .start := fun e => by simp [e, Mode.lineOn] at hon
  refine ⟨(s.evaluated order during).formReference, by simp [exec, execEvaluation, hm], ?_⟩
  rw [State.evaluated]
  exact h.of_spares (State.sameTable_of_peers (by simp)) (by simp) (by simpa using .refl _)

/-- An event of the peer table told by its command. -/
theorem State.through_tableEvent (s : State) (e : TableEvent) :
    s.through [TableEvent.command e] = s.takeTableEvent e := by
  have h : exec (TableEvent.command e) s = .next (s.takeTableEvent e) := by
    have := s.takeTableEvent_command e
    cases e <;> exact this
  rw [State.through, h]
  rfl

/-- The verifier's work with no event in it. -/
theorem State.drawn_uninterrupted {s t : State} (hon : s.control.mode.lineOn = true) (ha : t.TableAgrees s)
    (hs : t.SparesDraw s.countEvaluation) (began : Mode) :
    (State.workDuring began [] t .drawVerifier).Drawn s s (s.drawOf (s.upstreamOf s.peer)) := by
  refine State.drawn_workSeeing hon hs ha.entries began [] fun k _ => ?_
  rw [State.tableSeen_nil]
  exact ha.entries k

/-- The verifier's work with an event in its reading, which leaves the line in work. -/
theorem State.drawn_interrupted {s t : State} {e : TableEvent} (read : List Nat) (hon : s.control.mode.lineOn = true)
    (hafter : (s.takeTableEvent e).control.mode.lineOn = true) (ha : t.TableAgrees s)
    (hs : t.SparesDraw s.countEvaluation) (began : Mode) :
    (State.workDuring began [{ before := .drawVerifier, event := e, read := read }] t .drawVerifier).Drawn s
      (s.takeTableEvent e)
      (s.drawOf (s.upstreamOf fun k => if k ∈ read then s.peer k else (s.takeTableEvent e).peer k)) := by
  have ha' : s.TableAgrees t :=
    ⟨ha.1.symm, ha.2.symm, ha.3.symm, ha.4.symm, ha.5.symm, ha.6.symm, ha.7.symm, ha.entries.symm⟩
  have hevent := State.sparesDraw_takeTableEvent ha' hs.fault.classMap.symm hs.fault.detectMask.symm e hafter
  have hentries : (t.takeTableEvent e).SameTable (s.takeTableEvent e) := State.sameTable_takeTableEvent ha e
  have hwork : State.workDuring began [{ before := .drawVerifier, event := e, read := read }] t .drawVerifier
      = State.workSeeing began (t.takeTableEvent e) (read.map fun k => (k, t.peer k)) .drawVerifier := by
    simp [State.workDuring, State.takeInterruption]
  rw [hwork]
  refine State.drawn_workSeeing hon (hevent.trans hs) hentries began _ fun k hk => ?_
  rw [State.peer_tableSeen _ _ _ hk]
  split
  · exact ha.entries k
  · exact hentries k

/-- Settles O24: the other works leave what the verifier reads, and an event within its reading finds the table that the
evaluation began with. -/
theorem drawIsVerified : Obligations.DrawIsVerified := by
  intro order event read s
  cases event with
  | none =>
    intro u during seen speeds up own z draw outcome run hon _
    have hworks := State.runWorks_drawn (s := s) order (during := []) (by simp) fun began t ha hs =>
      State.drawn_uninterrupted hon ha hs began
    obtain ⟨t, hexec, htable, hdraw, hcounted⟩ := hworks.exec_evaluation hon
    have hseen : seen = s.peer := funext fun k => ite_self _
    have hspeeds : s.upstreamOf s.peer = speeds := by rw [← hseen]; rfl
    rw [hspeeds] at hdraw hcounted
    exact ⟨t, hexec, fun k => PeerEntry.state_stored_of_table (htable k), hdraw, hcounted⟩
  | some e =>
    intro u during seen speeds up own z draw outcome run hon hafter
    have hu : u = s.takeTableEvent e := s.through_tableEvent e
    rw [hu] at hafter
    have hworks := State.runWorks_drawn (s := s) order (during := during) (by simp [during]) fun began t ha hs =>
      State.drawn_interrupted read hon hafter ha hs began
    rw [← hu] at hworks
    obtain ⟨t, hexec, htable, hdraw, hcounted⟩ := hworks.exec_evaluation hon
    exact ⟨t, hexec, fun k => PeerEntry.state_stored_of_table (htable k), hdraw, hcounted⟩

end Sys2Proof.Machine
end

section
/-! SUPPORT. The fault unit's own laws over the recording and clearing of notices, over the masks and over the resets
(R161 to R163, R169, R171). -/

namespace Sys2Proof.Machine

/-! ### Sets of kinds -/

theorem or_and_eq_zero {a b c : KindSet} : (a ||| b) &&& c = 0 ↔ a &&& c = 0 ∧ b &&& c = 0 := by
  rw [BitVec.and_comm, BitVec.and_or_distrib_left, BitVec.and_comm c, BitVec.and_comm c]
  exact BitVec.or_eq_zero_iff

theorem and_and_eq_zero {a c : KindSet} (h : a &&& c = 0) (b : KindSet) : a &&& b &&& c = 0 := by
  rw [BitVec.and_assoc, BitVec.and_comm b, ← BitVec.and_assoc, h]
  exact BitVec.zero_and

/-- A kind's flag is its own bit. -/
theorem Kind.getLsbD_flag (k : Kind) (i : Nat) : k.flag.getLsbD i = decide (i = k.number - 1) := by
  have hk := k.number_range
  rw [Kind.flag, BitVec.getLsbD_twoPow, Bool.eq_iff_iff]
  simp only [Bool.and_eq_true, decide_eq_true_eq]
  omega

theorem Kind.flag_and_eq_zero {k : Kind} {m : KindSet} (h : holds m k = false) : k.flag &&& m = 0 := by
  refine BitVec.eq_of_getLsbD_eq fun i _ => ?_
  rw [BitVec.getLsbD_and, Kind.getLsbD_flag]
  by_cases e : i = k.number - 1
  · subst e
    simpa [holds] using h
  · simp [e]

theorem Kind.flag_and_fixedKinds (k : Kind) : k.flag &&& Config.fixedKinds = 0 ↔ k.fixed = false := by
  cases k <;> decide

/-! ### The laws -/

/-- The laws of the fault unit but for its lines: CONFIG and ID_CLASH are TRIP class and never masked, no detect-masked
kind is set, and a set kind has been counted (R161 to R163). -/
structure FaultUnit.Counted (f : FaultUnit) : Prop where
  fixedTrip : f.classMap &&& Config.fixedKinds = Config.fixedKinds
  fixedDetect : f.detectMask &&& Config.fixedKinds = 0
  fixedSignal : f.signalMask &&& Config.fixedKinds = 0
  unmasked : f.status &&& f.detectMask = 0
  counts : ∀ n ∈ List.range 16, f.counts.toList.getD n 0 ≤ Config.runMax
    ∧ (f.status.getLsbD n = true → 1 ≤ f.counts.toList.getD n 0)

/-- The fault lines are as status, classes and signal mask make them too (R169). -/
structure FaultUnit.Ok (f : FaultUnit) : Prop extends f.Counted where
  lines : f.driveLines = f

/-- CONFIG or ID_CLASH is set (R97). -/
def FaultUnit.Fatal (f : FaultUnit) : Prop := f.status &&& Config.fixedKinds ≠ 0

theorem FaultUnit.driveLines_eq_self (f : FaultUnit) :
    f.driveLines = f ↔ f.tripLine = decide (f.status &&& f.classMap &&& ~~~f.signalMask ≠ 0)
      ∧ f.warnLine = decide (f.status &&& ~~~f.classMap &&& ~~~f.signalMask ≠ 0) := by
  cases f
  simp [FaultUnit.driveLines, FaultUnit.tripDue, FaultUnit.warnDue, eq_comm]

/-- The laws of the fault unit, and the mode's part in them (R97). -/
theorem State.faultsOk_iff {s : State} : s.FaultsOk ↔ s.fault.Ok ∧ (s.control.mode = .hold ↔ s.fault.Fatal) := by
  constructor
  · rintro ⟨hc, hd, hs, hu, hm, hn, hl⟩
    exact ⟨⟨⟨hc, hd, hs, hu, hn⟩, s.fault.driveLines_eq_self.mpr hl⟩, hm⟩
  · rintro ⟨⟨⟨hc, hd, hs, hu, hn⟩, hl⟩, hm⟩
    exact ⟨hc, hd, hs, hu, hm, hn, s.fault.driveLines_eq_self.mp hl⟩

section Laws

variable {f : FaultUnit}

/-- The records of a fault unit are under no law. -/
theorem FaultUnit.Ok.of_eq {g : FaultUnit} (h : f.Ok) (e : g.status = f.status ∧ g.counts = f.counts
    ∧ g.classMap = f.classMap ∧ g.detectMask = f.detectMask ∧ g.signalMask = f.signalMask
    ∧ g.tripLine = f.tripLine ∧ g.warnLine = f.warnLine) : g.Ok := by
  obtain ⟨⟨h1, h2, h3, h4, h5⟩, hl⟩ := h
  obtain ⟨e1, e2, e3, e4, e5, e6, e7⟩ := e
  rw [FaultUnit.driveLines_eq_self, ← e1, ← e3, ← e5, ← e6, ← e7, ← FaultUnit.driveLines_eq_self] at hl
  exact ⟨⟨e3 ▸ h1, e4 ▸ h2, e5 ▸ h3, by rwa [e1, e4], by rwa [e1, e2]⟩, hl⟩

theorem FaultUnit.Counted.driveLines (h : f.Counted) : f.driveLines.Ok := ⟨⟨h.1, h.2, h.3, h.4, h.5⟩, rfl⟩

/-! ### Notices recorded (R163) -/

theorem FaultUnit.counts_getD (f : FaultUnit) {i : Nat} (hi : i < 16) : f.counts.toList.getD i 0 = f.counts[i] := by
  simp [List.getD_eq_getElem?_getD, hi]

theorem FaultUnit.count_counts (f : FaultUnit) (n : Notice) {i : Nat} (hi : i < 16) :
    (f.count n).counts[i] = if i = n.kind.number - 1 then min 255 (f.counts[i] + 1) else f.counts[i] := by
  have hk := n.kind.number_range
  have hraised : (f.count n).counts = (f.raised n.kind).counts := by rw [← f.count_driveLines n]; rfl
  have hplace : i + 1 = n.kind.number ↔ i = n.kind.number - 1 := by omega
  simp [hraised, FaultUnit.raised, hplace]

theorem FaultUnit.count_status (f : FaultUnit) (n : Notice) (i : Nat) :
    (f.count n).status.getLsbD i = (f.status.getLsbD i || decide (i = n.kind.number - 1)) := by
  rw [show (f.count n).status = f.status ||| n.kind.flag from rfl, BitVec.getLsbD_or, Kind.getLsbD_flag]

/-- A notice of a kind that is not detect-masked. -/
theorem FaultUnit.Counted.count (h : f.Counted) {n : Notice} (hn : holds f.detectMask n.kind = false) :
    (f.count n).Counted where
  fixedTrip := h.fixedTrip
  fixedDetect := h.fixedDetect
  fixedSignal := h.fixedSignal
  unmasked := or_and_eq_zero.mpr ⟨h.unmasked, Kind.flag_and_eq_zero hn⟩
  counts := fun i hi => by
    obtain ⟨hle, hset⟩ := h.counts i hi
    rw [List.mem_range] at hi
    rw [FaultUnit.counts_getD _ hi] at hle hset ⊢
    rw [FaultUnit.count_counts _ _ hi, FaultUnit.count_status]
    simp only [Config.runMax] at hle ⊢
    split
    · exact ⟨Nat.min_le_left _ _, fun _ => by omega⟩
    next e => exact ⟨hle, fun hs => hset (by simpa [e] using hs)⟩

/-- A set of notices. -/
theorem FaultUnit.Counted.count_live (h : f.Counted) (ns : List Notice) :
    ((f.live ns).foldl FaultUnit.count f).Counted := by
  refine (List.foldlRecOn (motive := fun g : FaultUnit => g.Counted ∧ g.detectMask = f.detectMask) _ _ ⟨h, rfl⟩
    fun g ⟨hg, hmask⟩ n hn => ⟨hg.count ?_, hmask⟩).1
  rw [hmask]
  simpa [FaultUnit.live] using (List.mem_filter.mp hn).2

/-- After a set of notices CONFIG or ID_CLASH is set where it was, or where the set holds one of them. -/
theorem FaultUnit.fatal_count_live (f : FaultUnit) (ns : List Notice) :
    ((f.live ns).foldl FaultUnit.count f).Fatal ↔ f.Fatal ∨ f.dropsToHold ns = true := by
  have hone : ∀ (g : FaultUnit) (n : Notice), (g.count n).Fatal ↔ g.Fatal ∨ n.kind.fixed = true := by
    intro g n
    show ¬ (g.status ||| n.kind.flag) &&& Config.fixedKinds = 0 ↔ _
    rw [or_and_eq_zero, Kind.flag_and_fixedKinds, not_and_or, Bool.not_eq_false]
    rfl
  unfold FaultUnit.dropsToHold
  generalize f.live ns = l
  induction l generalizing f with
  | nil => simp
  | cons n l ih =>
    refine (ih (f.count n)).trans ?_
    rw [hone, List.any_cons, Bool.or_eq_true, or_assoc]

/-- The two fixed kinds are TRIP class, so that a set that leads to HOLD requests its drop (R168). -/
theorem FaultUnit.Counted.requestsDrop (h : f.Counted) {ns : List Notice} (hd : f.dropsToHold ns = true) :
    f.requestsDrop ns = true := by
  obtain ⟨n, hn, hk⟩ := List.any_eq_true.mp hd
  refine List.any_eq_true.mpr ⟨n, hn, ?_⟩
  have hbit := congrArg (·.getLsbD (n.kind.number - 1)) h.fixedTrip
  have hfixed : Config.fixedKinds.getLsbD (n.kind.number - 1) = true := hk
  simpa [holds, hfixed] using hbit

/-! ### Kinds cleared and masked (R162, R169, R171) -/

theorem FaultUnit.Ok.clear (h : f.Ok) (kinds : KindSet) : (f.clear kinds).Ok := by
  refine FaultUnit.Counted.driveLines
    ⟨h.fixedTrip, h.fixedDetect, h.fixedSignal, and_and_eq_zero h.unmasked _, fun n hn => ?_⟩
  obtain ⟨hle, hset⟩ := h.counts n hn
  refine ⟨hle, fun hs => hset ?_⟩
  rw [show (f.status &&& ~~~kinds).getLsbD n = _ from BitVec.getLsbD_and, Bool.and_eq_true] at hs
  exact hs.1

theorem FaultUnit.not_fatal_clear (h : ¬ f.Fatal) (kinds : KindSet) : ¬ (f.clear kinds).Fatal :=
  not_not_intro (and_and_eq_zero (not_not.mp h) _)

/-- A detect mask that masks neither a fixed kind nor one that is set. -/
theorem FaultUnit.Ok.withDetect (h : f.Ok) {m : KindSet} (hfixed : m &&& Config.fixedKinds = 0)
    (hset : m &&& f.status = 0) : ({ f with detectMask := m } : FaultUnit).Ok :=
  ⟨⟨h.fixedTrip, hfixed, h.fixedSignal, by rwa [BitVec.and_comm], h.counts⟩,
    (FaultUnit.driveLines_eq_self _).mpr ((FaultUnit.driveLines_eq_self f).mp h.lines)⟩

/-- The detect mask of a kind; a kind that stood when it is masked is cleared. -/
theorem FaultUnit.Ok.setDetect (h : f.Ok) {k : Kind} (hk : k.fixed = false) (on : Bool) : (f.setDetect k on).Ok := by
  have hunset : f.detectMask &&& f.status = 0 := by rw [BitVec.and_comm]; exact h.unmasked
  have hmask : (f.detectMask ||| k.flag) &&& Config.fixedKinds = 0 :=
    or_and_eq_zero.mpr ⟨h.fixedDetect, k.flag_and_fixedKinds.mpr hk⟩
  cases on with
  | false => exact h.withDetect (and_and_eq_zero h.fixedDetect _) (and_and_eq_zero hunset _)
  | true =>
    show (if holds f.status k then ({ f with detectMask := f.detectMask ||| k.flag } : FaultUnit).clear k.flag
      else ({ f with detectMask := f.detectMask ||| k.flag } : FaultUnit)).Ok
    split
    next =>
      refine (h.clear k.flag).withDetect hmask (or_and_eq_zero.mpr ⟨?_, ?_⟩)
      · rw [BitVec.and_comm]
        exact and_and_eq_zero h.unmasked _
      · show k.flag &&& (f.status &&& ~~~k.flag) = 0
        rw [BitVec.and_comm, BitVec.and_assoc, BitVec.and_comm (~~~k.flag), BitVec.and_not_self]
        exact BitVec.and_zero
    next hset => exact h.withDetect hmask (or_and_eq_zero.mpr ⟨hunset, Kind.flag_and_eq_zero (by simpa using hset)⟩)

theorem FaultUnit.not_fatal_setDetect (h : ¬ f.Fatal) (k : Kind) (on : Bool) : ¬ (f.setDetect k on).Fatal := by
  unfold FaultUnit.setDetect
  split
  · dsimp only
    split
    · exact FaultUnit.not_fatal_clear h _
    · exact h
  · exact h

theorem FaultUnit.Ok.setSignal (h : f.Ok) {k : Kind} (hk : k.fixed = false) (on : Bool) : (f.setSignal k on).Ok := by
  refine FaultUnit.Counted.driveLines ⟨h.fixedTrip, h.fixedDetect, ?_, h.unmasked, h.counts⟩
  cases on with
  | false => exact and_and_eq_zero h.fixedSignal _
  | true => exact or_and_eq_zero.mpr ⟨h.fixedSignal, k.flag_and_fixedKinds.mpr hk⟩

/-! ### Settings loaded (R161, R162, R174) -/

theorem FaultUnit.counted_of_unset {f : FaultUnit} {i : Image} (hi : i.InRange)
    (hm : f.classMap = i.classMap ∧ f.detectMask = i.detectMask ∧ f.signalMask = i.signalMask) (hs : f.status = 0)
    (hc : f.counts = Vector.replicate 16 0) : f.Counted := by
  obtain ⟨-, -, -, -, -, -, -, -, -, -, -, -, hclass, hdetect, hsignal⟩ := hi
  obtain ⟨h1, h2, h3⟩ := hm
  refine ⟨h1 ▸ hclass, h2 ▸ hdetect, h3 ▸ hsignal, by rw [hs]; exact BitVec.zero_and, fun n hn => ?_⟩
  rw [FaultUnit.counts_getD _ (List.mem_range.mp hn), hs]
  simp [hc]

end Laws

end Sys2Proof.Machine
end

section
/-! SUPPORT. The laws of modes, fades, tests and faults over notices and the drops they ask for, and over all that looks
at the peers (R94, R97, R104, R110, R111, R133, R163 to R168). -/

namespace Sys2Proof.Machine

/-! ### The laws in the course of an evaluation -/

/-- How far an evaluation has come, as the laws of the fades tell it: its fade step still to come, taken, or its works
complete and the trim applied, as it stands between evaluations too (R95, R103 to R105). -/
inductive Stage where
  | begun | faded | settled

/-- What the fade step and the applied trim bring about: the fade step leaves FADE_IN an authority count of 1 or more,
so that u leaves 0 in FADE_IN only together with a; and at the end y is u × a / F (R102, R103, R105). -/
def Stage.Law (g : Stage) (s : State) : Prop :=
  match g with
  | .begun => True
  | .faded => s.control.mode = .trim .fadeIn → 1 ≤ s.control.authority
  | .settled =>
    (s.control.mode = .trim .fadeIn → s.control.authority = 0 → s.balance.integrator = 0)
      ∧ s.control.trim = truncDiv (s.balance.integrator * s.control.authority) s.image.fadeLength

/-- The laws of the fades at a stage (R25, R81, R93, R105). -/
structure State.FadeOk (g : Stage) (s : State) : Prop where
  fadeIn : s.control.mode = .trim .fadeIn → s.control.authority < s.image.fadeLength
  full : s.control.mode = .trim .full → s.control.authority = s.image.fadeLength
  fadeOut : s.control.mode = .trim .fadeOut → 1 ≤ s.control.authority ∧ s.control.authority ≤ s.image.fadeLength
  outside : s.control.mode.isTrim = false → s.Zeroed
  limit : s.balance.integrator.natAbs ≤ s.handler.tuning.trimLimit
  word : s.drive.lastWord.natAbs ≤ 2000
  stage : g.Law s

/-- The laws of modes, fades, tests and faults at a stage of an evaluation. -/
structure State.Governed (g : Stage) (s : State) : Prop where
  fade : s.FadeOk g
  test : s.TestOk
  unit : s.fault.Ok
  hold : s.control.mode = .hold ↔ s.fault.Fatal

/-- Between evaluations these are the laws of a sound node. -/
theorem State.governed_iff {s : State} : s.Governed .settled ↔ s.AuthorityOk ∧ s.TestOk ∧ s.FaultsOk := by
  rw [State.faultsOk_iff]
  constructor
  · rintro ⟨⟨hin, hfull, hout, hzero, hlim, hword, hu, hy⟩, ht, hf, hm⟩
    exact ⟨⟨fun hm => ⟨hin hm, hu hm⟩, hfull, hout, hzero, hlim, hy, hword⟩, ht, hf, hm⟩
  · rintro ⟨⟨hin, hfull, hout, hzero, hlim, hy, hword⟩, ht, hf, hm⟩
    exact ⟨⟨fun hm => (hin hm).1, hfull, hout, hzero, hlim, hword, fun hm => (hin hm).2, hy⟩, ht, hf, hm⟩

section Notices

variable {g : Stage} {s t : State}

theorem truncDiv_zero (d : Int) : truncDiv 0 d = 0 := Int.zero_tdiv d

/-- Outside TRIM a node with authority removed is at every stage. -/
theorem Stage.law_of_zeroed (g : Stage) (hm : s.control.mode.isTrim = false) (hz : s.Zeroed) : g.Law s := by
  obtain ⟨ha, hy, hu⟩ := hz
  cases g with
  | begun => trivial
  | faded => exact fun e => by simp [e, Mode.isTrim] at hm
  | settled => exact ⟨fun _ _ => hu, by rw [hy, hu, Int.zero_mul, truncDiv_zero]⟩

/-- A node outside TRIM with authority removed. -/
theorem State.FadeOk.of_zeroed (hm : s.control.mode.isTrim = false) (hz : s.Zeroed)
    (hw : s.drive.lastWord.natAbs ≤ 2000) : s.FadeOk g where
  fadeIn := fun e => by simp [e, Mode.isTrim] at hm
  full := fun e => by simp [e, Mode.isTrim] at hm
  fadeOut := fun e => by simp [e, Mode.isTrim] at hm
  outside := fun _ => hz
  limit := by
    obtain ⟨-, -, hu⟩ := hz
    simp [hu]
  word := hw
  stage := g.law_of_zeroed hm hz

theorem State.FadeOk.of_eq (h : s.FadeOk g) (e : t.control.mode = s.control.mode
    ∧ t.control.authority = s.control.authority ∧ t.control.trim = s.control.trim
    ∧ t.balance.integrator = s.balance.integrator ∧ t.drive.lastWord = s.drive.lastWord
    ∧ t.startUnit = s.startUnit ∧ t.handler.tuning = s.handler.tuning) : t.FadeOk g := by
  obtain ⟨hm, ha, hy, hu, hw, hi, ht⟩ := e
  obtain ⟨h1, h2, h3, h4, h5, h6, h7⟩ := h
  have hi : t.image = s.image := by rw [State.image, hi]; rfl
  refine ⟨?_, ?_, ?_, ?_, by rwa [hu, ht], by rwa [hw], ?_⟩
  · rwa [hm, ha, hi]
  · rwa [hm, ha, hi]
  · rwa [hm, ha, hi]
  · unfold State.Zeroed
    rwa [hm, ha, hy, hu]
  · cases g with
    | begun => trivial
    | faded => exact fun e => ha ▸ h7 (hm ▸ e)
    | settled =>
      unfold Stage.Law
      rwa [hm, ha, hy, hu, hi]

theorem State.TestOk.of_eq (h : s.TestOk) (e : t.control.mode = s.control.mode ∧ t.excitation = s.excitation
    ∧ (t.observation = s.observation ∨ t.observation = .empty ∨ s.control.mode ≠ .test)) : t.TestOk := by
  obtain ⟨hm, hx, ho⟩ := e
  unfold State.TestOk at h ⊢
  rw [hm, hx]
  obtain ⟨h1, h2, h3, h4⟩ := h
  refine ⟨h1, h2, fun ht => ⟨(h3 ht).1, ?_⟩, h4⟩
  rcases ho with ho | ho | ho
  · exact ho.trans (h3 ht).2
  · exact ho
  · exact absurd ht ho

/-- What touches neither mode, authority, integrator, reference word, test nor faults, and the observation slot only to
empty it or outside TEST. -/
theorem State.Governed.of_eq (h : s.Governed g) (e : t.control.mode = s.control.mode
    ∧ t.control.authority = s.control.authority ∧ t.control.trim = s.control.trim
    ∧ t.balance.integrator = s.balance.integrator ∧ t.drive.lastWord = s.drive.lastWord
    ∧ t.startUnit = s.startUnit ∧ t.handler.tuning = s.handler.tuning ∧ t.excitation = s.excitation
    ∧ (t.observation = s.observation ∨ t.observation = .empty ∨ s.control.mode ≠ .test)
    ∧ t.fault = s.fault := by simp) : t.Governed g := by
  obtain ⟨hm, ha, hy, hu, hw, hi, ht, hx, ho, hf⟩ := e
  exact ⟨h.fade.of_eq ⟨hm, ha, hy, hu, hw, hi, ht⟩, h.test.of_eq ⟨hm, hx, ho⟩, by rw [hf]; exact h.unit,
    by rw [hm, hf]; exact h.hold⟩

theorem State.Governed.ite {c : Prop} [Decidable c] (ht : c → s.Governed g) (hu : ¬ c → t.Governed g) :
    (if c then s else t).Governed g := by
  split
  · exact ht ‹_›
  · exact hu ‹_›

/-! ### The trip drop (R110, R111) -/

/-- Authority removed and TRIM left. -/
theorem State.FadeOk.leaveTrim (h : s.FadeOk g) {m : Mode} (hm : m.isTrim = false) :
    (s.zeroAuthority.changeMode m).FadeOk g := by
  refine .of_zeroed (by simpa using hm) ?_ (by simpa using h.word)
  simp [State.Zeroed, State.zeroAuthority]

/-- A mode left for another, neither of them TEST. -/
theorem State.TestOk.outside (h : s.TestOk) (hs : s.control.mode ≠ .test) (ht : t.control.mode ≠ .test)
    (hx : t.excitation = s.excitation) : t.TestOk := by
  obtain ⟨hrun, hpat, -, -, hoff, hsent, hcount, hrest⟩ := h
  unfold State.TestOk
  rw [hx]
  exact ⟨by simp [ht, mt hrun.mp hs], hpat, fun e => absurd e ht, fun _ _ e => absurd e ht, hoff, hsent, hcount,
    fun _ => hrest hs⟩

/-- A test ended, with an outcome (R135, R140 to R142). -/
theorem State.TestOk.endTest {o : TestOutcome} (hp : ∀ p ∈ s.excitation.pattern, p.InRange)
    (hc : s.excitation.count ≤ 8160) (ht : t.control.mode ≠ .test)
    (hx : t.excitation = (s.endTest o).excitation) : t.TestOk := by
  unfold State.TestOk
  rw [hx]
  refine ⟨by simp [State.endTest, ht], hp, fun e => absurd e ht, fun _ _ e => absurd e ht, ?_, ?_, hc, ?_⟩ <;>
    simp [State.endTest]

theorem State.FadeOk.tripDrop (h : s.FadeOk g) (toHold : Bool) : (s.tripDrop toHold).FadeOk g := by
  have hleave : (if toHold then Mode.hold else .report).isTrim = false := by cases toHold <;> rfl
  have hkeep : s.control.mode.isTrim = false → (if toHold then s.toHold else s).FadeOk g := fun hm => by
    split
    · refine .of_zeroed (by simp [State.toHold, Mode.isTrim]) ?_ (by simpa [State.toHold] using h.word)
      obtain ⟨-, hy, hu⟩ := h.outside hm
      simp [State.Zeroed, State.toHold, hy, hu]
    · exact h
  unfold State.tripDrop
  split
  next => exact h.leaveTrim hleave
  next =>
    have hend : (s.endTest .aborted).FadeOk g := h.of_eq ⟨rfl, rfl, rfl, rfl, rfl, rfl, rfl⟩
    exact hend.leaveTrim hleave
  next hm => exact hkeep (by rw [hm]; rfl)
  next hm => exact hkeep (by rw [hm]; rfl)
  next hm => exact hkeep (by rw [hm]; rfl)
  next => exact h

theorem State.TestOk.tripDrop (h : s.TestOk) (toHold : Bool) : (s.tripDrop toHold).TestOk := by
  have hleave : (if toHold then Mode.hold else .report) ≠ .test := by cases toHold <;> decide
  have hkeep : s.control.mode ≠ .test → (if toHold then s.toHold else s).TestOk := fun hm => by
    split
    · exact h.outside hm (by simp [State.toHold]) (by simp)
    · exact h
  have ⟨_, hpat, _, _, _, _, hcount, _⟩ := h
  unfold State.tripDrop
  split
  next hm => exact h.outside (by simp [hm]) (by simpa using hleave) (by simp)
  next hm => exact .endTest (s := s.zeroAuthority) (o := .aborted) hpat hcount (by simpa using hleave) (by simp)
  next hm => exact hkeep (by simp [hm])
  next hm => exact hkeep (by simp [hm])
  next hm => exact hkeep (by simp [hm])
  next => exact h

/-- A drop that names neither CONFIG nor ID_CLASH leads neither into nor out of HOLD. -/
theorem State.tripDrop_hold_iff (s : State) : (s.tripDrop false).control.mode = .hold ↔ s.control.mode = .hold := by
  unfold State.tripDrop
  split <;> simp [*]

/-! ### Notices (R163 to R168) -/

/-- A set of notices recorded. -/
theorem FaultUnit.Ok.recordNotices (h : s.fault.Ok) (ns : List Notice) : (s.recordNotices ns).fault.Ok := by
  refine FaultUnit.Ok.of_eq (h.count_live ns).driveLines ?_
  simp [State.recordNotices]

theorem State.fatal_recordNotices (s : State) (ns : List Notice) :
    (s.recordNotices ns).fault.Fatal ↔ s.fault.Fatal ∨ s.fault.dropsToHold ns = true := by
  rw [← s.fault.fatal_count_live ns]
  unfold FaultUnit.Fatal
  simp [State.recordNotices, FaultUnit.driveLines]

/-- A set of notices taken: it leads to HOLD exactly where it sets CONFIG or ID_CLASH. -/
theorem State.Governed.takeNotices (h : s.Governed g) (ns : List Notice) : (s.takeNotices ns).Governed g := by
  have hunit := FaultUnit.Ok.recordNotices h.unit ns
  have hfatal := s.fatal_recordNotices ns
  have hfade : (s.recordNotices ns).FadeOk g := h.fade.of_eq (by simp)
  have htest : (s.recordNotices ns).TestOk := h.test.of_eq (by simp)
  have hmode : (s.recordNotices ns).control.mode = s.control.mode := by simp
  cases hd : s.fault.dropsToHold ns with
  | true =>
    have hdrop : s.takeNotices ns = (s.recordNotices ns).tripDrop true := by
      rw [State.takeNotices, if_pos (h.unit.requestsDrop hd), hd]
    rw [hdrop]
    refine ⟨hfade.tripDrop _, htest.tripDrop _, by simpa using hunit, ?_⟩
    rw [State.tripDrop_hold_mode, show ((s.recordNotices ns).tripDrop true).fault = (s.recordNotices ns).fault by simp]
    simp [hfatal, hd]
  | false =>
    have hstay : (s.recordNotices ns).control.mode = .hold ↔ (s.recordNotices ns).fault.Fatal := by
      rw [hmode, h.hold, hfatal]
      simp [hd]
    rw [State.takeNotices, hd]
    refine .ite (fun _ => ⟨hfade.tripDrop _, htest.tripDrop _, by simpa using hunit, ?_⟩) fun _ =>
      ⟨hfade, htest, hunit, hstay⟩
    rw [State.tripDrop_hold_iff, hstay]
    simp [FaultUnit.Fatal]

theorem State.Governed.takeNotice (h : s.Governed g) (n : Notice) : (s.takeNotice n).Governed g := h.takeNotices [n]

/-! ### The coupling observer -/

@[simp] theorem State.emptySlot_observation (s : State) : s.emptySlot.observation = .empty := rfl

theorem State.Governed.giveVerdict (h : s.Governed g) (k : Nat) : (s.giveVerdict k).Governed g := by
  have hp : (s.setPeer k { s.peer k with verdict := some (s.peer k).judged, marker := false }).Governed g := h.of_eq
  exact .ite (fun _ => hp.takeNotice _) fun _ => hp

/-- In TEST a transition is counted missed and the slot stays empty (R148). -/
theorem State.Governed.transition (h : s.Governed g) (k : Nat) (sign : Sign) : (s.transition k sign).Governed g := by
  refine h.of_eq ?_
  by_cases hm : s.control.mode = .test
  · simp [State.transition, hm]
  · simp [hm]

theorem State.Governed.levelChange (h : s.Governed g) (k : Nat) (a b : Level) : (s.levelChange k a b).Governed g := by
  unfold State.levelChange
  split
  · exact h.transition k _
  · exact h

theorem State.Governed.testStart (h : s.Governed g) (k : Nat) (l : Level) : (s.testStart k l).Governed g := by
  have hfirst : (if s.observation.finalFor k then s.emptySlot.giveVerdict k else s).Governed g :=
    .ite (fun _ => State.Governed.giveVerdict h.of_eq k) fun _ => h
  exact State.Governed.levelChange hfirst.of_eq k _ _

/-- No observation is open in TEST (R147). -/
theorem State.Governed.not_test (h : s.Governed g) (ho : s.observation ≠ .empty) : s.control.mode ≠ .test := fun e => by
  obtain ⟨-, -, hslot, -⟩ := h.test
  exact ho (hslot e).2

theorem State.Governed.testEnd (h : s.Governed g) (k : Nat) : (s.testEnd k).Governed g := by
  unfold State.testEnd
  split
  next ho =>
    have hm := h.not_test (by simp [ho])
    exact .ite (fun _ => h.of_eq (by simp [hm])) fun _ => h.giveVerdict k
  next => exact .ite (fun _ => State.Governed.giveVerdict h.of_eq k) fun _ => h.giveVerdict k
  next => exact h.giveVerdict k

theorem State.Governed.observeUpdate (h : s.Governed g) (k : Nat) (previous : Option Contents) (now : Contents) :
    (s.observeUpdate k previous now).Governed g := by
  unfold State.observeUpdate
  split
  · exact h
  · split
    · exact .ite (fun _ => h.levelChange k _ _) fun _ => h
    · exact .ite (fun _ => h.testEnd k) fun _ => h
    · exact h.testStart k _
    · exact h

theorem State.Governed.observeDemotion (h : s.Governed g) (d : Demotion) : (s.observeDemotion d).Governed g := by
  unfold State.observeDemotion
  dsimp only
  exact .ite (fun _ => .ite (fun _ => h.of_eq) fun _ => h.of_eq) fun _ => h

theorem State.Governed.observe (h : s.Governed g) (hm : s.control.mode ≠ .test) : s.observe.Governed g := by
  unfold State.observe
  split
  · exact h
  · exact .ite (fun _ => h.of_eq) fun _ => h.of_eq (by simp [hm])
  · exact .ite (fun _ => h.of_eq) fun _ => .ite (fun _ => h.of_eq) fun _ => h.of_eq (by simp [hm])
  · exact .ite (fun _ => h.of_eq) fun _ => h.of_eq (by simp [hm])
  · exact State.Governed.giveVerdict h.of_eq _
  · exact State.Governed.giveVerdict h.of_eq _

/-! ### The peer table -/

theorem State.Governed.takeReport (h : s.Governed g) (k : Nat) (r : Report) : (s.takeReport k r).Governed g := by
  have hp : (s.setPeer k ((s.peer k).take s.image.passThreshold s.clock r)).Governed g := h.of_eq
  refine State.Governed.observeUpdate (.ite (fun _ => ?_) fun _ => hp) k _ _
  exact State.Governed.observeDemotion (.ite (fun _ => hp.takeNotice _) fun _ => hp) _

theorem State.Governed.reportArrives (h : s.Governed g) (k : Nat) (p : List Byte) :
    (s.reportArrives k p).Governed g := by
  unfold State.reportArrives
  split
  · exact h.takeReport k _
  · exact h

theorem State.Governed.watchdogDue (h : s.Governed g) (due : WatchdogDue) : (s.watchdogDue due).Governed g := by
  have hexpire : ∀ (t : State) (k : Nat), t.Governed g → (t.expire k).Governed g := fun t k ht => by
    have hp : (t.setPeer k (t.peer k).lapse).Governed g := ht.of_eq
    exact State.Governed.observeDemotion (.ite (fun _ => hp.takeNotice _) fun _ => hp) _
  unfold State.watchdogDue
  split
  · exact .ite (fun _ => hexpire _ _ h.of_eq) fun _ => h
  · exact h

theorem State.Governed.loseStep (h : s.Governed g) : s.loseStep.Governed g := by
  refine h.of_eq ?_
  simp only [State.loseStep]
  split <;> simp

/-! ### Frames judged (R31 to R36) and attempts that end (R39) -/

theorem State.Governed.judgeBad (h : s.Governed g) : s.judgeBad.Governed g := by
  unfold State.judgeBad
  dsimp only
  exact .ite (fun _ => State.Governed.loseStep (State.Governed.takeNotices h.of_eq _)) fun _ =>
    State.Governed.takeNotice h.of_eq _

theorem State.Governed.receiveBad (h : s.Governed g) : s.receiveBad.Governed g := .ite (fun _ => h.judgeBad) fun _ => h

theorem State.Governed.endAttempt (h : s.Governed g) (rx : RxState) : (s.endAttempt rx).Governed g := h.of_eq

theorem State.Governed.loseBit (h : s.Governed g) : s.loseBit.Governed g :=
  .ite (fun _ => (h.endAttempt _).takeNotice _) fun _ => h

theorem State.Governed.faultBit (h : s.Governed g) : s.faultBit.Governed g :=
  .ite (fun _ => (h.endAttempt _).judgeBad) fun _ => h

theorem State.Governed.beginAttempt (h : s.Governed g) : s.beginAttempt.Governed g := by
  rcases s.beginAttempt_cases with he | ⟨a, -, -, -, -, he⟩ <;> rw [he]
  · exact h
  · exact h.of_eq

/-- A REPORT frame, judged as a frame of the line. -/
theorem State.Governed.receiveReport (h : s.Governed g) (moment : Nat) (k : BitVec 6) (p : List Byte) :
    (s.receive moment (contention 2 k) p).Governed g := by
  unfold State.receive
  refine .ite (fun _ => .ite (fun _ => ?_) fun _ => h.judgeBad) fun _ => h
  have hcount : (s.countGood moment).Governed g := h.of_eq (by simp [State.countGood_eq])
  rw [State.route_report]
  exact .ite (fun _ => hcount.takeNotice _) fun _ => hcount.reportArrives _ _

theorem State.Governed.takeTableEvent (h : s.Governed g) (e : TableEvent) : (s.takeTableEvent e).Governed g := by
  cases e with
  | report m k p => exact h.receiveReport m k p
  | badFrame => exact h.receiveBad
  | faultyBitAbort => exact h.faultBit
  | watchdogExpiry due => exact h.watchdogDue due

end Notices

end Sys2Proof.Machine
end

section
/-! SUPPORT. The laws of modes, fades, tests and faults over the works of an evaluation, whatever their order and with
the peer table's events among them (R81, R95, R103 to R105, R133 to R135). -/

namespace Sys2Proof.Machine

/-- What one work brings about, and every other work and every event keeps, holds after the works of an evaluation with
the peer table's events among them. -/
theorem State.runWorks_during_reach {P Q : State → Prop} {s : State} (o : List EvalWork) (during : List Interruption)
    (w : EvalWork) (h : P s) (eventP : ∀ (e : TableEvent) (t : State), P t → P (t.takeTableEvent e))
    (eventQ : ∀ (e : TableEvent) (t : State), Q t → Q (t.takeTableEvent e))
    (before : ∀ (v : EvalWork) (seen : List (Nat × PeerEntry)) (t : State), v ≠ w → P t →
      P (State.workSeeing s.control.mode t seen v))
    (here : ∀ (seen : List (Nat × PeerEntry)) (t : State), P t → Q (State.workSeeing s.control.mode t seen w))
    (later : ∀ (v : EvalWork) (seen : List (Nat × PeerEntry)) (t : State), v ≠ w → Q t →
      Q (State.workSeeing s.control.mode t seen v)) : Q (s.runWorks o during) := by
  obtain ⟨l₁, l₂, hl⟩ := List.append_of_mem (mem_scheduleOf o w)
  have hn := scheduleOf_nodup o
  rw [hl, List.nodup_append, List.nodup_cons] at hn
  obtain ⟨-, ⟨hw₂, -⟩, hdisj⟩ := hn
  unfold State.runWorks
  rw [hl, List.foldl_append, List.foldl_cons]
  have h₁ := List.foldlRecOn (motive := P) l₁ (State.workDuring s.control.mode during) h fun t ht v hv =>
    before v _ _ (hdisj v hv w List.mem_cons_self) (State.takeInterruption_induct _ _ ht eventP)
  exact List.foldlRecOn (motive := Q) l₂ (State.workDuring s.control.mode during)
    (here _ _ (State.takeInterruption_induct _ _ h₁ eventP)) fun t ht v hv =>
      later v _ _ (fun e => hw₂ (e ▸ hv)) (State.takeInterruption_induct _ _ ht eventQ)

section Works

variable {g : Stage} {s t : State}

/-! ### The fade step and the engine (R81, R103, R104) -/

/-- The phase of a node in TRIM. -/
theorem Mode.isTrim_iff {m : Mode} : m.isTrim = true ↔ ∃ p, m = .trim p := by
  cases m <;> simp [Mode.isTrim]

/-- TRIM or its phase changed within TRIM, the line and the posting apart. -/
theorem State.Governed.withFade (h : s.Governed g) {g' : Stage} (hf : t.FadeOk g')
    (hs : s.control.mode.isTrim = true) (ht : t.control.mode.isTrim = true)
    (e : t.excitation = s.excitation ∧ t.fault = s.fault) : t.Governed g' := by
  obtain ⟨p, hp⟩ := Mode.isTrim_iff.mp hs
  obtain ⟨q, hq⟩ := Mode.isTrim_iff.mp ht
  refine ⟨hf, h.test.outside (by simp [hp]) (by simp [hq]) e.1, by rw [e.2]; exact h.unit, ?_⟩
  have hhold := h.hold
  rw [hp] at hhold
  rw [hq, e.2, ← hhold]
  simp

/-- TRIM left for REPORT or LISTEN with authority removed, or a change between modes without authority. -/
theorem State.Governed.changeMode (h : s.Governed g) (hz : s.Zeroed) (hh : s.control.mode ≠ .hold)
    (ht : s.control.mode ≠ .test) {m : Mode} (hm : m.hasAuthority = false) (hm' : m ≠ .hold) :
    (s.changeMode m).Governed g := by
  have hwide : m.isTrim = false ∧ m ≠ .test := by cases m <;> simp_all [Mode.isTrim, Mode.hasAuthority]
  refine ⟨.of_zeroed (by simpa using hwide.1) (by simpa [State.Zeroed] using hz) (by simpa using h.fade.word),
    h.test.outside ht (by simpa using hwide.2) (by simp), by simpa using h.unit, ?_⟩
  have hhold := h.hold
  simp only [hh, false_iff] at hhold
  simpa [hm'] using hhold

/-- The fade step: FADE_IN gains authority up to F, FADE_OUT loses it and ends in REPORT. -/
theorem State.Governed.fadeStep (h : s.Governed .begun) : s.fadeStep.Governed .faded := by
  obtain ⟨hin, hfull, hout, hzero, hlim, hword, -⟩ := h.fade
  unfold State.fadeStep
  split
  next hm =>
    have hlt := hin hm
    have hs : s.control.mode.isTrim = true := by rw [hm]; rfl
    refine .ite (fun hF => h.withFade ?_ hs rfl ⟨rfl, rfl⟩) fun hF => h.withFade ?_ hs (by simp [hs]) ⟨rfl, rfl⟩
    · exact ⟨nofun, fun _ => hF, nofun, nofun, hlim, hword, nofun⟩
    · refine ⟨fun _ => ?_, ?_, ?_, ?_, hlim, hword, fun _ => Nat.le_add_left 1 _⟩
      · show s.control.authority + 1 < s.image.fadeLength
        omega
      all_goals simp [hm, Mode.isTrim]
  next hm =>
    have hs : s.control.mode.isTrim = true := by rw [hm]; rfl
    obtain ⟨h1, hF⟩ := hout hm
    split
    next =>
      refine ⟨.of_zeroed (by simp [Mode.isTrim]) (by simp [State.Zeroed, State.zeroAuthority]) (by simpa using hword),
        h.test.outside (by simp [hm]) (by simp) (by simp), by simpa using h.unit, ?_⟩
      simpa [hm] using h.hold
    next hgt =>
      refine h.withFade ⟨?_, ?_, fun _ => ?_, ?_, hlim, hword, ?_⟩ hs (by simp [hs]) ⟨rfl, rfl⟩
      · simp [hm]
      · simp [hm]
      · show 1 ≤ s.control.authority - 1 ∧ s.control.authority - 1 ≤ s.image.fadeLength
        omega
      · simp [hm, Mode.isTrim]
      · exact fun e => by simp [hm] at e
  next hni hno =>
    exact ⟨⟨hin, hfull, hout, hzero, hlim, hword, fun e => absurd e hni⟩, h.test, h.unit, h.hold⟩

/-- The engine's integrator stays within the trim limit, and is 0 outside TRIM (R81). -/
theorem nextIntegrator_natAbs_le (m : Mode) (r : ShareResult) {limit : Nat} {u : Int} (hu : u.natAbs ≤ limit) :
    (nextIntegrator m r limit u).natAbs ≤ limit := by
  have hclamp : (clampInt (-(limit : Int)) limit (u + r.step)).natAbs ≤ limit := by
    have := clampInt_range (lo := -(limit : Int)) (hi := limit) (by omega) (u + r.step)
    omega
  unfold nextIntegrator
  split
  · exact hu
  · split
    · exact hclamp
    · exact hu
  · exact Nat.zero_le _

theorem nextIntegrator_outside {m : Mode} (hm : m.isTrim = false) (r : ShareResult) (limit : Nat) (u : Int) :
    nextIntegrator m r limit u = 0 := by
  cases m <;> simp_all [nextIntegrator, Mode.isTrim]

theorem State.FadeOk.balanced (h : s.FadeOk g) (hg : g ≠ .settled) :
    ({ s with balance := s.balanced } : State).FadeOk g where
  fadeIn := h.fadeIn
  full := h.full
  fadeOut := h.fadeOut
  outside := fun hm => by
    obtain ⟨ha, hy, -⟩ := h.outside hm
    exact ⟨ha, hy, nextIntegrator_outside hm _ _ _⟩
  limit := nextIntegrator_natAbs_le _ _ h.limit
  word := h.word
  stage := by
    have hlaw := h.stage
    cases g with
    | settled => exact absurd rfl hg
    | begun => trivial
    | faded => exact hlaw

theorem State.Governed.balanceWork (h : s.Governed g) (hg : g ≠ .settled) : s.balanceWork.Governed g := by
  have hb : ({ s with balance := s.balanced } : State).Governed g :=
    ⟨h.fade.balanced hg, h.test.of_eq (by simp), h.unit, h.hold⟩
  exact .ite (fun _ => hb.takeNotices _) fun _ => h

/-! ### The test (R133 to R135, R139, R140) -/

/-- The offset of a step is a level times an amplitude within 500. -/
theorem Pattern.InRange.offset_le {p : Pattern} (hp : p.InRange) (i : Nat) : (p.offset i).natAbs ≤ 500 := by
  obtain ⟨-, -, ⟨-, ha⟩, -⟩ := hp
  unfold Pattern.offset
  cases p.level i <;> simp only [Level.toInt] <;> omega

/-- A running test stands within its steps, or just past the last, and its count is at most the evaluations run. -/
structure Excitation.Within (x : Excitation) (p : Pattern) : Prop where
  step : x.stepIndex < p.levels.length ∨ (x.stepIndex = p.levels.length ∧ x.position = 0)
  position : x.position < p.hold
  count : x.count ≤ x.stepIndex * p.hold + x.position

theorem State.TestOk.within (h : s.TestOk) (hm : s.control.mode = .test) {p : Pattern}
    (hp : s.excitation.pattern = some p) : s.excitation.stepIndex < p.levels.length ∧ s.excitation.Within p := by
  obtain ⟨-, -, -, hstep, -⟩ := h
  obtain ⟨hi, hj, hc⟩ := hstep p hp hm
  exact ⟨hi, .inl hi, hj, hc⟩

/-- The check sends the step in progress and counts at most one response. -/
theorem State.checkResponse_frame (s : State) (p : Pattern) :
    (s.checkResponse p).pattern = s.excitation.pattern ∧ (s.checkResponse p).running = s.excitation.running
      ∧ (s.checkResponse p).offset = p.offset s.excitation.stepIndex
      ∧ (s.checkResponse p).sentStep = s.excitation.stepIndex
      ∧ (s.checkResponse p).stepIndex = s.excitation.stepIndex
      ∧ (s.checkResponse p).position = s.excitation.position
      ∧ (s.checkResponse p).count ≤ s.excitation.count + 1 := by
  refine ⟨rfl, rfl, rfl, rfl, rfl, rfl, ?_⟩
  show s.excitation.count + _ ≤ _
  split <;> omega

/-- The advance moves the position and the step alone. -/
theorem Excitation.advance_frame (x : Excitation) (p : Pattern) :
    (x.advance p).pattern = x.pattern ∧ (x.advance p).running = x.running ∧ (x.advance p).offset = x.offset
      ∧ (x.advance p).sentStep = x.sentStep ∧ (x.advance p).count = x.count := by
  unfold Excitation.advance
  split <;> exact ⟨rfl, rfl, rfl, rfl, rfl⟩

/-- An evaluation's check and advance take a running test one evaluation on (R134, R135). -/
theorem State.within_advance {p : Pattern} (h : s.excitation.Within p)
    (hi : s.excitation.stepIndex < p.levels.length) : ((s.checkResponse p).advance p).Within p := by
  obtain ⟨-, -, -, -, hstep, hpos, hle⟩ := s.checkResponse_frame p
  obtain ⟨-, hj, hc⟩ := h
  unfold Excitation.advance
  rw [hstep, hpos]
  split
  next e =>
    refine ⟨?_, ?_, ?_⟩
    · show s.excitation.stepIndex + 1 < _ ∨ s.excitation.stepIndex + 1 = _ ∧ 0 = 0
      omega
    · show 0 < p.hold
      omega
    · show (s.checkResponse p).count ≤ (s.excitation.stepIndex + 1) * p.hold + 0
      rw [Nat.add_mul]
      omega
  next e =>
    refine ⟨.inl hi, ?_, ?_⟩
    · show s.excitation.position + 1 < p.hold
      omega
    · show (s.checkResponse p).count ≤ s.excitation.stepIndex * p.hold + (s.excitation.position + 1)
      omega

/-- A test within a pattern in range has run at most 32 steps of 255 evaluations. -/
theorem Excitation.Within.count_le {x : Excitation} {p : Pattern} (h : x.Within p) (hp : p.InRange) :
    x.count ≤ 8160 := by
  obtain ⟨⟨-, hlen⟩, ⟨-, hhold⟩, -⟩ := hp
  obtain ⟨hstep, hpos, hcount⟩ := h
  have hrun : x.stepIndex * p.hold + x.position ≤ p.levels.length * p.hold := by
    rcases hstep with hlt | ⟨heq, hzero⟩
    · have := Nat.mul_le_mul_right p.hold (Nat.succ_le_of_lt hlt)
      rw [Nat.succ_mul] at this
      omega
    · rw [heq, hzero]
      omega
  calc x.count ≤ p.levels.length * p.hold := hcount.trans hrun
    _ ≤ 32 * 255 := Nat.mul_le_mul hlen hhold

/-- The check and advance of an evaluation in TEST keep the laws of a test, or end it. -/
theorem State.Governed.runStep (h : s.Governed g) (hm : s.control.mode = .test) {p : Pattern}
    (hp : s.excitation.pattern = some p) : (s.runStep p).Governed g := by
  have ⟨hi, hin⟩ := h.test.within hm hp
  obtain ⟨hrun, hpat, hslot, -⟩ := h.test
  have hrange := hpat p hp
  have hadv := State.within_advance hin hi
  have hpattern : ((s.checkResponse p).advance p).pattern = some p := by
    rw [((s.checkResponse p).advance_frame p).1]
    exact hp
  have hcount := hadv.count_le hrange
  have hhold := h.hold
  rw [hm] at hhold
  have hfade : ({ s with excitation := (s.checkResponse p).advance p } : State).FadeOk g :=
    h.fade.of_eq ⟨rfl, rfl, rfl, rfl, rfl, rfl, rfl⟩
  unfold State.runStep
  dsimp only
  split
  next hpast =>
    refine ⟨.of_zeroed (by simp [Mode.isTrim]) ?_ (by simpa using h.fade.word), ?_, by simpa using h.unit, ?_⟩
    · have hz := h.fade.outside (by rw [hm]; rfl)
      simpa [State.Zeroed, State.endTest] using hz
    · exact .endTest (s := { s with excitation := (s.checkResponse p).advance p })
        (o := ((s.checkResponse p).advance p).outcome p)
        (fun q hq => by rwa [← Option.some.inj (hpattern.symm.trans hq)]) hcount (by simp) (by simp)
    · simpa using hhold
  next hpast =>
    obtain ⟨-, hrunning, hoff, hsent, -⟩ := (s.checkResponse p).advance_frame p
    have hlen : s.excitation.stepIndex ≤ 31 := by
      obtain ⟨⟨-, hlen⟩, -⟩ := hrange
      omega
    refine ⟨hfade, ⟨?_, ?_, fun _ => ⟨?_, (hslot hm).2⟩, ?_, ?_, ?_, hcount, fun e => absurd hm e⟩, h.unit, h.hold⟩
    · show ((s.checkResponse p).advance p).running = true ↔ _
      rw [hrunning]
      exact hrun
    · exact fun q hq => by rwa [← Option.some.inj (hpattern.symm.trans hq)]
    · show ((s.checkResponse p).advance p).pattern.isSome = true
      rw [hpattern]
      rfl
    · rintro q hq -
      obtain rfl := Option.some.inj (hpattern.symm.trans hq)
      refine ⟨hadv.step.resolve_right fun ⟨heq, hzero⟩ => hpast ?_, hadv.position, hadv.count⟩
      simp [Excitation.past, heq, hzero]
    · show ((s.checkResponse p).advance p).offset.natAbs ≤ 500
      rw [hoff]
      exact hrange.offset_le _
    · show ((s.checkResponse p).advance p).sentStep ≤ 31
      rw [hsent]
      exact hlen

theorem State.Governed.excitationWork (h : s.Governed g) : s.excitationWork.Governed g := by
  unfold State.excitationWork
  split
  next p hm hp =>
    have hr := h.runStep hm hp
    refine .ite (fun _ => State.Governed.takeNotice ?_ _) fun _ => hr
    exact ⟨hr.fade.of_eq ⟨rfl, rfl, rfl, rfl, rfl, rfl, rfl⟩, hr.test, hr.unit, hr.hold⟩
  next => exact h

/-! ### The works together -/

/-- A work besides the fade step. -/
theorem State.Governed.work (h : s.Governed g) (hg : g ≠ .settled) (began : Mode) {w : EvalWork} (hw : w ≠ .fadeStep) :
    (s.work began w).Governed g := by
  cases w with
  | fadeStep => exact absurd rfl hw
  | accumulatorClose => exact h.of_eq (by simp [State.work, State.closeAccumulator_eq])
  | staleNotice => exact .ite (fun _ => h.takeNotice _) fun _ => h
  | balanceEngine => exact h.balanceWork hg
  | drawVerifier =>
    have hd : ({ s with draw := s.verified } : State).Governed g := h.of_eq
    exact .ite (fun _ => .ite (fun _ => hd.takeNotice _) fun _ => hd) fun _ => h
  | excitationUnit => exact h.excitationWork
  | couplingObserver => exact .ite (fun hc => h.observe hc.2) fun _ => h

/-- The laws look at no entry of the peer table. -/
theorem State.Governed.withPeers (h : s.Governed g) (v : Vector PeerEntry 40) :
    ({ s with peers := v } : State).Governed g := h.of_eq

theorem State.Governed.workSeeing (h : s.Governed g) (hg : g ≠ .settled) (began : Mode)
    (seen : List (Nat × PeerEntry)) {w : EvalWork} (hw : w ≠ .fadeStep) :
    (State.workSeeing began s seen w).Governed g :=
  .ite (fun _ => ((h.withPeers _).work hg began hw).withPeers _) fun _ => h.work hg began hw

/-- The applied trim completes what the fade step began (R105). -/
theorem State.Governed.applyTrim (h : s.Governed .faded) : s.applyTrim.Governed .settled := by
  obtain ⟨hin, hfull, hout, hzero, hlim, hword, hlaw⟩ := h.fade
  unfold State.applyTrim
  split
  next hm =>
    refine h.withFade ⟨hin, hfull, hout, ?_, hlim, hword, ?_⟩ hm hm ⟨rfl, rfl⟩
    · exact fun e => absurd (hm.symm.trans e) (by decide)
    · exact ⟨fun e h0 => absurd (hlaw e) (by rw [show s.control.authority = 0 from h0]; decide), rfl⟩
  next hm =>
    have hm := Bool.eq_false_iff.mpr hm
    exact ⟨.of_zeroed hm (hzero hm) hword, h.test, h.unit, h.hold⟩

/-- A node between evaluations has its fade step to come again. -/
theorem State.Governed.begin (h : s.Governed .settled) : s.countEvaluation.Governed .begun := by
  obtain ⟨hin, hfull, hout, hzero, hlim, hword, -⟩ := h.fade
  exact ⟨⟨hin, hfull, hout, hzero, hlim, hword, trivial⟩, h.test, h.unit, h.hold⟩

/-- The whole work of an evaluation, with the peer table's events among it. -/
theorem State.Governed.evaluated (h : s.Governed .settled) (order : List EvalWork) (during : List Interruption) :
    (s.evaluated order during).Governed .settled := by
  have hworks : (s.countEvaluation.runWorks order during).Governed .faded := by
    refine State.runWorks_during_reach (P := State.Governed .begun) (Q := State.Governed .faded) order during .fadeStep
      h.begin (fun e t ht => ht.takeTableEvent e) (fun e t ht => ht.takeTableEvent e) ?_ ?_ ?_
    · exact fun v seen t hv ht => ht.workSeeing nofun _ seen hv
    · exact fun seen t ht => by
        rw [State.workSeeing, if_neg (by simp)]
        exact ht.fadeStep
    · exact fun v seen t hv ht => ht.workSeeing nofun _ seen hv
  have happlied := hworks.applyTrim
  unfold State.evaluated
  exact happlied.of_eq

/-- The applied trim lies within the integrator's limit, so within ±2000 (R25, R105). -/
theorem State.Governed.trim_le (h : s.Governed .settled) (hset : s.SettingsOk) : s.control.trim.natAbs ≤ 2000 := by
  obtain ⟨-, hy⟩ := h.fade.stage
  by_cases hm : s.control.mode.isTrim = true
  · have hF : s.control.authority ≤ s.image.fadeLength := by
      obtain ⟨p, hp⟩ := Mode.isTrim_iff.mp hm
      cases p with
      | fadeIn => exact (h.fade.fadeIn hp).le
      | full => exact (h.fade.full hp).le
      | fadeOut => exact (h.fade.fadeOut hp).2
    have hL : s.handler.tuning.trimLimit ≤ 2000 := by
      obtain ⟨-, ⟨-, -, -, hL, -⟩, -⟩ := hset
      exact hL
    rw [hy, truncDiv, Int.natAbs_tdiv, Int.natAbs_mul, Int.natAbs_natCast, Int.natAbs_natCast]
    calc s.balance.integrator.natAbs * s.control.authority / s.image.fadeLength
        ≤ s.balance.integrator.natAbs := Nat.div_le_of_le_mul (by
          rw [Nat.mul_comm]
          exact Nat.mul_le_mul_right _ hF)
      _ ≤ 2000 := h.fade.limit.trans hL
  · obtain ⟨-, hzero, -⟩ := h.fade.outside (Bool.eq_false_iff.mpr hm)
    simp [hzero]

/-- The REFERENCE frame carries the applied trim, the test's offset or 0 (R25). -/
theorem State.Governed.formReference (h : s.Governed .settled) (hset : s.SettingsOk) :
    s.formReference.Governed .settled := by
  have hword : s.referenceWord.natAbs ≤ 2000 := by
    obtain ⟨-, -, -, -, hoff, -⟩ := h.test
    unfold State.referenceWord
    split
    · exact h.trim_le hset
    · omega
    · exact Nat.zero_le _
  obtain ⟨hin, hfull, hout, hzero, hlim, -, hlaw⟩ := h.fade
  exact .ite (fun _ => ⟨⟨hin, hfull, hout, hzero, hlim, hword, hlaw⟩, h.test, h.unit, h.hold⟩) fun _ => h

end Works

end Sys2Proof.Machine
end

section
/-! SUPPORT. The laws of modes, fades, tests and faults over the directives carried out (R100 to R107, R127 to R131,
R141, R162, R171, R179, R180). -/

namespace Sys2Proof.Machine

section Directives

variable {g : Stage} {s t : State}

/-! ### SET_MODE (R100 to R107) -/

theorem State.SettingsOk.fadeLength_pos (h : s.SettingsOk) : 0 < s.image.fadeLength := by
  obtain ⟨⟨-, -, -, -, -, -, -, -, -, -, ⟨hF, -⟩, -⟩, -⟩ := h
  exact hF

/-- In TRIM with an authority count of 0 nothing of the trim is left. -/
theorem State.FadeOk.zeroed (h : s.FadeOk .settled) (hm : s.control.mode = .trim .fadeIn)
    (ha : s.control.authority = 0) : s.Zeroed := by
  obtain ⟨hu, hy⟩ := h.stage
  refine ⟨ha, ?_, hu hm ha⟩
  rw [hy, ha, Int.natCast_zero, Int.mul_zero, truncDiv_zero]

/-- A fade-out begun in FADE_IN or FULL, or TRIM ended at once (R106). -/
theorem State.Governed.beginFadeOut (h : s.Governed .settled) (hs : s.SettingsOk) {p : Phase}
    (hm : s.control.mode = .trim p) (hp : p ≠ .fadeOut) : s.beginFadeOut.Governed .settled := by
  have hF := hs.fadeLength_pos
  obtain ⟨hin, hfull, -, -, hlim, hword, -, hy⟩ := h.fade
  refine .ite (fun ha => ?_) fun ha => ?_
  · have hphase : p = .fadeIn := by
      cases p with
      | fadeIn => rfl
      | full => exact absurd (hfull hm) (by omega)
      | fadeOut => exact absurd rfl hp
    exact h.changeMode (h.fade.zeroed (hphase ▸ hm) ha) (by simp [hm]) (by simp [hm]) rfl nofun
  · refine h.withFade ⟨nofun, nofun, fun _ => ?_, nofun, hlim, hword, nofun, hy⟩ (by rw [hm]; rfl) rfl ⟨rfl, rfl⟩
    refine ⟨Nat.pos_of_ne_zero ha, ?_⟩
    cases p with
    | fadeIn => exact (hin hm).le
    | full => exact (hfull hm).le
    | fadeOut => exact absurd rfl hp

/-- A fade-out reversed (R107). -/
theorem State.Governed.reverseFade (h : s.Governed .settled) (hm : s.control.mode = .trim .fadeOut) :
    s.reverseFade.Governed .settled := by
  obtain ⟨-, -, hout, -, hlim, hword, -, hy⟩ := h.fade
  obtain ⟨h1, hF⟩ := hout hm
  have ht : s.control.mode.isTrim = true := by rw [hm]; rfl
  refine .ite (fun ha => ?_) fun ha => ?_
  · exact h.withFade ⟨nofun, fun _ => ha, nofun, nofun, hlim, hword, nofun, hy⟩ ht rfl ⟨rfl, rfl⟩
  · refine h.withFade ⟨fun _ => lt_of_le_of_ne hF ha, nofun, nofun, nofun, hlim, hword, fun _ h0 => ?_, hy⟩ ht rfl
      ⟨rfl, rfl⟩
    exact absurd h1 (by rw [show s.control.authority = 0 from h0]; decide)

/-- TRIM entered from REPORT (R102). -/
theorem State.Governed.enterTrim (h : s.Governed .settled) (hs : s.SettingsOk) (hm : s.control.mode = .report) :
    s.enterTrim.Governed .settled := by
  obtain ⟨-, -, hu⟩ := h.fade.outside (by rw [hm]; rfl)
  have hF := hs.fadeLength_pos
  have hhold := h.hold
  refine ⟨⟨fun _ => ?_, ?_, ?_, ?_, ?_, ?_, ?_⟩, h.test.outside (by simp [hm]) (by simp [State.enterTrim])
    (by simp [State.enterTrim]), by simpa [State.enterTrim] using h.unit, ?_⟩
  · simpa [State.enterTrim, State.image] using hF
  · simp [State.enterTrim]
  · simp [State.enterTrim]
  · simp [State.enterTrim, Mode.isTrim]
  · simp [State.enterTrim, hu]
  · simpa [State.enterTrim] using h.fade.word
  · simp [Stage.Law, State.enterTrim, hu, truncDiv_zero]
  · simpa [State.enterTrim, hm] using hhold

theorem State.Governed.doSetMode (h : s.Governed .settled) (hs : s.SettingsOk) (target : Nat) :
    (s.doSetMode target).node.Governed .settled := by
  have hmove : ∀ m, s.control.mode = .listen ∨ s.control.mode = .report → m = .listen ∨ m = .report →
      (s.changeMode m).Governed .settled := by
    intro m hm hm'
    refine h.changeMode (h.fade.outside ?_) ?_ ?_ ?_ ?_ <;>
      rcases hm with hm | hm <;> rcases hm' with rfl | rfl <;> simp [hm, Mode.isTrim, Mode.hasAuthority]
  unfold State.doSetMode
  split
  · unfold State.towardListen
    split
    · exact h
    next hm => exact hmove _ (.inr hm) (.inl rfl)
    · exact h
  · unfold State.towardReport
    split
    next hm => exact hmove _ (.inl hm) (.inr rfl)
    · exact h
    · exact h
    next p hp hm => exact h.beginFadeOut hs hm hp
    · exact h
  · unfold State.towardTrim
    split
    next hm =>
      split
      · exact h
      · exact h.enterTrim hs hm
    next hm => exact h.reverseFade hm
    · exact h
    · exact h
  · exact h

/-! ### Tests (R127 to R131, R141) -/

theorem State.Governed.doStopTest (h : s.Governed g) : s.doStopTest.node.Governed g := by
  unfold State.doStopTest
  split
  next hm =>
    obtain ⟨-, hpat, -, -, -, -, hcount, -⟩ := h.test
    have hhold := h.hold
    have hz := h.fade.outside (by rw [hm]; rfl)
    refine ⟨.of_zeroed (by simp [done, Mode.isTrim]) ?_ (by simpa [done] using h.fade.word), ?_,
      by simpa [done] using h.unit, ?_⟩
    · simpa [done, State.Zeroed, State.endTest] using hz
    · exact .endTest (s := s) (o := .aborted) hpat hcount (by simp [done]) (by simp [done])
    · simpa [done, hm] using hhold
  next => exact h

/-- Entry to TEST told to the observer: the slot is emptied before a waiting verdict is given (R156). -/
theorem State.Governed.observeTestEntry (h : s.emptySlot.Governed g) : s.observeTestEntry.Governed g := by
  unfold State.observeTestEntry
  split
  next ho => exact h.of_eq (by simp [ho])
  · exact h.of_eq
  · dsimp only
    refine .ite (fun _ => State.Governed.giveVerdict ?_ _) fun _ => ?_
    all_goals
      refine h.of_eq ?_
      split <;> simp

/-- The start of a test in REPORT (R131). -/
theorem State.Governed.beginTest (h : s.Governed .settled) (hm : s.control.mode = .report)
    (hp : s.excitation.pattern ≠ none) : s.beginTest.Governed .settled := by
  obtain ⟨-, hpat, -⟩ := h.test
  have hz := h.fade.outside (by rw [hm]; rfl)
  have hhold := h.hold
  refine State.Governed.observeTestEntry
    ⟨.of_zeroed (by simp [Mode.isTrim]) ?_ (by simp), ?_, by simpa using h.unit, ?_⟩
  · simpa [State.Zeroed] using hz
  · refine ⟨by simp, by simpa using hpat, fun _ => ?_, ?_, by simp, by simp, by simp, by simp⟩
    · simpa [Option.isSome_iff_ne_none] using hp
    · simp only [State.emptySlot_excitation, State.changeMode_excitation]
      rintro p hsome -
      obtain ⟨⟨hlen, -⟩, ⟨hhold, -⟩, -⟩ := hpat p hsome
      exact ⟨hlen, hhold, Nat.zero_le _⟩
  · simpa [hm] using hhold

theorem State.testBar_none (h : s.testBar = none) : s.control.mode = .report ∧ s.excitation.pattern ≠ none := by
  unfold State.testBar at h
  split at h
  next => cases h
  next hm =>
    refine ⟨not_not.mp hm, fun hp => ?_⟩
    rw [if_pos hp] at h
    split at h
    · cases h
    · split at h <;> cases h

theorem State.Governed.doStartTest (h : s.Governed .settled) : s.doStartTest.node.Governed .settled := by
  unfold State.doStartTest
  split
  · exact h
  next hbar =>
    obtain ⟨hm, hp⟩ := State.testBar_none hbar
    exact h.beginTest hm hp

/-- A pattern read holds as many levels as it names. -/
theorem parseLevels_length {levels : List Byte} {n i : Nat} {ls : List Level} (h : parseLevels levels n i = some ls) :
    ls.length = n := by
  induction n generalizing i ls with
  | zero => simpa [parseLevels] using (Option.some.inj h).symm
  | succ n ih =>
    rw [parseLevels] at h
    split at h
    next l ms _ hms =>
      obtain rfl := Option.some.inj h
      simpa using ih hms
    next => cases h

/-- A pattern loaded outside TEST. -/
theorem State.Governed.withPattern (h : s.Governed g) (hm : s.control.mode ≠ .test) {p : Pattern} (hp : p.InRange) :
    ({ s with excitation := { s.excitation with pattern := some p } } : State).Governed g := by
  obtain ⟨hrun, -, -, -, hoff, hsent, hcount, hrest⟩ := h.test
  refine ⟨h.fade.of_eq ⟨rfl, rfl, rfl, rfl, rfl, rfl, rfl⟩, ⟨hrun, ?_, fun e => absurd e hm, fun _ _ e => absurd e hm,
    hoff, hsent, hcount, hrest⟩, h.unit, h.hold⟩
  rintro q hq
  obtain rfl := Option.some.inj hq
  exact hp

theorem State.Governed.doLoadPattern (h : s.Governed g) (n : Nat) (levels : List Byte) (hold amplitude tolerance : Nat)
    (target : Byte) : (s.doLoadPattern n levels hold amplitude tolerance target).node.Governed g := by
  unfold State.doLoadPattern
  split
  · exact h
  next hm =>
    split
    · exact h
    next hn =>
      split
      · exact h
      next ls hls =>
        have hlen := parseLevels_length hls
        exact h.withPattern hm ⟨by dsimp only; omega, clampNat_range (by decide) _, clampNat_range (by decide) _,
          clampNat_range (by decide) _⟩

/-! ### Masks, tuning values and status (R162, R171, R179, R180) -/

/-- The fault unit changed so that neither CONFIG nor ID_CLASH comes to be set, outside HOLD. -/
theorem State.Governed.withFault (h : s.Governed g) (hm : s.control.mode ≠ .hold) {f : FaultUnit} (hf : f.Ok)
    (hfatal : ¬ s.fault.Fatal → ¬ f.Fatal) : ({ s with fault := f } : State).Governed g :=
  ⟨h.fade.of_eq ⟨rfl, rfl, rfl, rfl, rfl, rfl, rfl⟩, h.test.of_eq ⟨rfl, rfl, .inl rfl⟩, hf,
    iff_of_false hm (hfatal (h.hold.not.mp hm))⟩

theorem State.Governed.doClearFaults (h : s.Governed g) (hm : s.control.mode ≠ .hold) (kinds : KindSet) :
    (s.doClearFaults kinds).node.Governed g :=
  h.withFault hm (h.unit.clear kinds) fun hf => FaultUnit.not_fatal_clear hf kinds

theorem maskKind?_fixed {number : Nat} {k : Kind} (h : maskKind? number = some k) : k.fixed = false := by
  unfold maskKind? at h
  split at h
  · split at h
    · cases h
    next hf => exact Option.some.inj h ▸ Bool.eq_false_iff.mpr hf
  · cases h

/-- A mask item, of a mask that keeps the unit's laws for the kinds it may name. -/
theorem State.Governed.tuneMask (h : s.Governed g) (hm : s.control.mode ≠ .hold)
    {set : FaultUnit → Kind → Bool → FaultUnit}
    (hset : ∀ k on, k.fixed = false → (set s.fault k on).Ok ∧ (¬ s.fault.Fatal → ¬ (set s.fault k on).Fatal))
    (number value : Nat) : (s.tuneMask set number value).node.Governed g := by
  have hone : ∀ k on, maskKind? number = some k → ({ s with fault := set s.fault k on } : State).Governed g :=
    fun k on hk => by
      obtain ⟨hok, hfatal⟩ := hset k on (maskKind?_fixed hk)
      exact h.withFault hm hok hfatal
  unfold State.tuneMask
  split
  next hk => exact hone _ _ hk
  next hk => exact hone _ _ hk
  next => exact h

/-- Outside TRIM the integrator is 0, within any trim limit. -/
theorem State.Governed.withTuning (h : s.Governed g) (hm : s.control.mode.isTrim = false) (u : Tuning) :
    ({ s with handler := { s.handler with tuning := u } } : State).Governed g :=
  ⟨.of_zeroed hm (h.fade.outside hm) h.fade.word, h.test, h.unit, h.hold⟩

theorem State.Governed.doTune (h : s.Governed g) (item : Nat) (hi lo : Byte) :
    (s.doTune item hi lo).node.Governed g := by
  unfold State.doTune
  split
  next hm =>
    have hhold : s.control.mode ≠ .hold := by rcases hm with hm | hm <;> simp [hm]
    have htrim : s.control.mode.isTrim = false := by rcases hm with hm | hm <;> simp [hm, Mode.isTrim]
    split
    · exact h.of_eq ⟨rfl, rfl, rfl, rfl, rfl, rfl, rfl, rfl, .inl rfl, rfl⟩
    · exact h.tuneMask hhold (fun k on hk => ⟨h.unit.setDetect hk on, fun hf => FaultUnit.not_fatal_setDetect hf k on⟩)
        _ _
    · exact h.tuneMask hhold (fun k on hk => ⟨h.unit.setSignal hk on, id⟩) _ _
    · split
      · exact h
      · exact h.withTuning htrim _
  next => exact h

/-! ### A directive taken (R175 to R177) -/

theorem State.Governed.carryOut (h : s.Governed .settled) (hs : s.SettingsOk) (hon : s.control.mode.lineOn = true)
    (kind : Nat) (args : List Byte) : (s.carryOut kind args).node.Governed .settled := by
  have hm : s.control.mode ≠ .hold := fun e => by simp [e, Mode.lineOn] at hon
  unfold State.carryOut
  split
  · exact h.doSetMode hs _
  · exact h.doLoadPattern ..
  · exact h.doStartTest
  · exact h.doStopTest
  · exact h.doClearFaults hm _
  · exact h.doTune ..
  · rw [State.doRead_node]
    exact h
  · exact h.of_eq ⟨rfl, rfl, rfl, rfl, rfl, rfl, rfl, rfl, .inl rfl, rfl⟩
  · exact h
  · exact h

theorem State.Governed.countDirective (h : s.Governed g) : s.countDirective.Governed g :=
  h.of_eq ⟨rfl, rfl, rfl, rfl, rfl, rfl, rfl, rfl, .inl rfl, rfl⟩

theorem State.Governed.reply (h : s.Governed .settled) (hs : s.SettingsOk) (hon : s.control.mode.lineOn = true)
    (kind : Nat) (args : List Byte) : (s.reply kind args).node.Governed .settled := by
  unfold State.reply
  split
  · exact h
  · exact h.carryOut hs hon kind args

theorem State.Governed.directive (h : s.Governed .settled) (hs : s.SettingsOk) (hon : s.control.mode.lineOn = true)
    (terminal : Byte) (payload : List Byte) : (s.directive terminal payload).Governed .settled := by
  have hcount := h.countDirective
  unfold State.directive
  split
  next target tag kind args =>
    refine .ite (fun _ => .ite (fun _ => ?_) fun _ => ?_) fun _ => .ite (fun _ => ?_) fun _ => h
    · exact (hcount.reply hs hon kind.toNat args).of_eq (by simp [State.takeAddressed, State.enqueue])
    · refine State.Governed.takeNotice (s := { s with handler := { s.handler with dropped := _ } }) ?_ _
      exact h.of_eq
    · refine .ite (fun _ => hcount.doStopTest) fun _ => .ite (fun _ => ?_) fun _ => h
      exact hcount.of_eq ⟨rfl, rfl, rfl, rfl, rfl, rfl, rfl, rfl, .inl rfl, rfl⟩
  next => exact h

end Directives

end Sys2Proof.Machine
end

section
/-! SUPPORT. The laws of modes, fades, tests and faults over the resets, over every command and over every step (R95 to
R97, R187, R189). -/

namespace Sys2Proof.Machine

section Commands

variable {g : Stage} {s t : State}

/-! ### Frames received -/

theorem State.Governed.route (h : s.Governed .settled) (hs : s.SettingsOk) (hon : s.control.mode.lineOn = true)
    (c : Byte) (payload : List Byte) : (s.route c payload).Governed .settled := by
  unfold State.route
  split
  · exact h.directive hs hon c payload
  · exact .ite (fun _ => h.takeNotice _) fun _ => h
  · exact .ite (fun _ => h.takeNotice _) fun _ => h.reportArrives _ _
  · exact h

theorem State.Governed.receive (h : s.Governed .settled) (hs : s.SettingsOk) (moment : Nat) (c : Byte)
    (payload : List Byte) : (s.receive moment c payload).Governed .settled := by
  unfold State.receive
  split
  next hr =>
    refine .ite (fun _ => ?_) fun _ => h.judgeBad
    have hheard : (s.countGood moment).Governed .settled := h.of_eq (by simp [State.countGood_eq])
    have hon := State.lineOn_of_canReceive hr.1
    exact hheard.route hs hon c payload
  next => exact h

theorem State.Governed.receiveChars (h : s.Governed .settled) (hs : s.SettingsOk) (moment : Nat) (chars : List Byte) :
    (s.receiveChars moment chars).Governed .settled := by
  unfold State.receiveChars
  split
  · exact h.receive hs ..
  · exact h.receiveBad

/-! ### The tracker and the drive link -/

theorem State.Governed.gateElapsed (h : s.Governed g) : s.gateElapsed.Governed g := by
  have ht : ({ s with tracker := s.tracker.gateEnd s.image.gate } : State).Governed g := h.of_eq
  exact .ite (fun _ => h) fun _ => .ite (fun _ => ht.takeNotice _) fun _ => ht

theorem State.Governed.torqueCharacter (h : s.Governed g) (c : Byte) : (s.torqueCharacter c).Governed g := by
  have hopen : ∀ chars, (s.openTorque chars).Governed g := fun chars => h.of_eq
  have hdiscard : (s.openTorque []).discardTorque.Governed g := (hopen []).of_eq
  unfold State.torqueCharacter
  split
  · exact .ite (fun _ => hopen _) fun _ => h
  · refine .ite (fun _ => .ite (fun _ => ?_) fun _ => hdiscard) fun _ => hdiscard
    exact State.Governed.takeNotices (h.of_eq (by simp)) _
  · exact hopen _

theorem State.Governed.torqueArrives (h : s.Governed g) (chars : List Byte) : (s.torqueArrives chars).Governed g :=
  .ite (fun _ => h) fun _ =>
    List.foldlRecOn (motive := State.Governed g) chars State.torqueCharacter h fun _ ht c _ => ht.torqueCharacter c

theorem State.Governed.cutTorque (h : s.Governed g) : s.cutTorque.Governed g := .ite (fun _ => h) fun _ => h.of_eq

/-! ### The resets and the ends of START (R96, R97, R187, R189) -/

/-- Authority, test and reference word at their reset values, in START or LISTEN. -/
theorem State.governed_atReset (hm : s.control.mode = .start ∨ s.control.mode = .listen) (hz : s.Zeroed)
    (hw : s.drive.lastWord = 0) (hx : s.excitation = Excitation.atReset s.excitation.pattern)
    (hp : ∀ p ∈ s.excitation.pattern, p.InRange) (hf : s.fault.Ok) (hn : ¬ s.fault.Fatal) : s.Governed .settled := by
  have hmode : s.control.mode.isTrim = false ∧ s.control.mode ≠ .test ∧ s.control.mode ≠ .hold := by
    rcases hm with hm | hm <;> simp [hm, Mode.isTrim]
  obtain ⟨htrim, htest, hhold⟩ := hmode
  refine ⟨.of_zeroed htrim hz (by simp [hw]), ?_, hf, iff_of_false hhold hn⟩
  unfold State.TestOk
  rw [hx]
  simp [Excitation.atReset, htest]
  exact hp

/-- A fault unit just reset, with the settings of an image in range. -/
theorem FaultUnit.Ok.of_unset {f : FaultUnit} {i : Image} (hi : i.InRange)
    (hm : f.classMap = i.classMap ∧ f.detectMask = i.detectMask ∧ f.signalMask = i.signalMask) (hs : f.status = 0)
    (hc : f.counts = Vector.replicate 16 0) (hl : f.tripLine = false ∧ f.warnLine = false) : f.Ok :=
  ⟨FaultUnit.counted_of_unset hi hm hs hc, (FaultUnit.driveLines_eq_self f).mpr (by simp [hs, hl])⟩

theorem FaultUnit.not_fatal_of_unset {f : FaultUnit} (hs : f.status = 0) : ¬ f.Fatal := by
  simp [FaultUnit.Fatal, hs]

/-- The settings of an image in range, loaded where no kind is set. -/
theorem FaultUnit.load_ok {f : FaultUnit} {i : Image} (hi : i.InRange) (hs : f.status = 0)
    (hc : f.counts = Vector.replicate 16 0) : (f.load i).Ok :=
  FaultUnit.Counted.driveLines (FaultUnit.counted_of_unset hi ⟨rfl, rfl, rfl⟩ hs hc)

theorem State.hardReset_governed (s : State) (phase : StartPhase) : (s.hardReset phase).Governed .settled :=
  State.governed_atReset (.inl rfl) ⟨rfl, rfl, rfl⟩ rfl rfl nofun
    (.of_unset Image.fallback_inRange ⟨rfl, rfl, rfl⟩ rfl rfl ⟨rfl, rfl⟩) (FaultUnit.not_fatal_of_unset rfl)

theorem State.Governed.softReset (h : s.Governed g) (hs : s.SettingsOk) : s.softReset.Governed .settled := by
  obtain ⟨-, hpat, -⟩ := h.test
  exact State.governed_atReset (.inl rfl) ⟨rfl, rfl, rfl⟩ rfl rfl hpat
    (.of_unset (f := s.softReset.fault) hs.1 ⟨rfl, rfl, rfl⟩ rfl rfl ⟨rfl, rfl⟩) (FaultUnit.not_fatal_of_unset rfl)

theorem State.Governed.answerDone (h : s.Governed .settled) (hs : s.SettingsOk) : s.answerDone.Governed .settled := by
  rcases s.answerDone_cases with he | ⟨-, a, rest, -, he⟩ | ⟨-, -, he⟩ <;> rw [he]
  · exact h
  · exact .ite (fun _ => h.softReset hs) fun _ => State.Governed.endAttempt (by exact h.of_eq) _
  · exact h.endAttempt _

/-- The end of START over blocks at their reset values (R96). -/
theorem State.enterListen_governed (hline : s.line = Line.atReset) (hbal : s.balance = Balance.atReset)
    (hctl : s.control = ModeControl.atReset)
    (hdrive : s.drive = { DriveLink.atReset with sending := s.drive.sending, frame := s.drive.frame })
    (hq : s.handler.queue = []) (hx : s.excitation = Excitation.atReset s.excitation.pattern)
    (hp : ∀ p ∈ s.excitation.pattern, p.InRange) (hf : s.fault.Ok) (hn : ¬ s.fault.Fatal) :
    s.enterListen.Governed .settled := by
  rw [State.enterListen_atReset hline hbal (by rw [hdrive]; rfl) hq]
  refine State.governed_atReset (.inr rfl) ⟨?_, ?_, ?_⟩ ?_ hx hp hf hn
  · rw [hctl]; rfl
  · rw [hctl]; rfl
  · show s.balance.integrator = 0
    rw [hbal]; rfl
  · show s.drive.lastWord = 0
    rw [hdrive]; rfl

/-! ### Every command -/

/-- The laws of modes, fades, tests and faults, over those of settings, START, tracker and drive link. -/
structure State.Ruled (s : State) : Prop extends s.Measured where
  governed : s.Governed .settled

theorem State.Governed.takeLate (h : s.Governed .settled) (hs : s.SettingsOk) (e : LateEvent) :
    (s.takeLate e).Governed .settled := by
  cases e with
  | gateEnd => exact h.gateElapsed
  | torqueFrame chars => exact h.torqueArrives chars
  | torqueGapCutOff => exact h.cutTorque
  | torqueFramingError => exact h.cutTorque
  | goodFrame m chars => exact h.receiveChars hs m chars
  | badFrame => exact h.receiveBad
  | watchdogExpiry due => exact h.watchdogDue due
  | payloadBitLoss => exact h.loseBit
  | faultyBitAbort => exact h.faultBit
  | attempt => exact .ite (fun _ => h) fun _ => h.beginAttempt
  | answerSent => exact h.answerDone hs

theorem State.Ruled.takeLate (h : s.Ruled) (e : LateEvent) : (s.takeLate e).Ruled :=
  ⟨h.toMeasured.takeLate e, h.governed.takeLate h.settings e⟩

/-- An evaluation, its late events and its frame. -/
theorem State.Ruled.evaluation (h : s.Ruled) (hm : s.control.mode ≠ .start) (course : Schedule) :
    ((course.late.foldl State.takeLate (s.evaluated course.order course.during)).formReference).Governed .settled := by
  have hw : s.Working := ⟨h.toMeasured, hm⟩
  have hlate : (course.late.foldl State.takeLate (s.evaluated course.order course.during)).Ruled :=
    State.takeLate_induct (P := State.Ruled) course.late
      ⟨(hw.evaluated _ _).toMeasured, h.governed.evaluated _ _⟩ fun e _ ht => ht.takeLate e
  exact hlate.governed.formReference hlate.settings

/-- Out of START, every command but the resets. -/
theorem State.Ruled.exec_working (h : s.Ruled) (hm : s.control.mode ≠ .start) {c : Instr} (h1 : c ≠ .hardwareReset)
    (h2 : c ≠ .resetPinAsserted) (ht : exec c s = .next t) : t.Governed .settled := by
  have hg := h.governed
  cases hd : directiveOf c with
  | some d =>
    rw [exec_directiveOf hd] at ht
    obtain rfl := Host.Outcome.next.inj ht
    exact hg.receive h.settings ..
  | none =>
    cases c <;> simp only [directiveOf, reduceCtorEq] at hd
    case hardwareReset => exact absurd rfl h1
    case resetPinAsserted => exact absurd rfl h2
    all_goals obtain rfl := Host.Outcome.next.inj ht
    case startCheck => exact .ite (fun hc => absurd hc.1 hm) fun _ => hg
    case softStartEnd => exact .ite (fun hc => absurd hc.1 hm) fun _ => hg
    case encoderEdge => exact .ite (fun _ => hg) fun _ => hg.of_eq
    case gateEnd => exact hg.gateElapsed
    case torqueFrame => exact hg.torqueArrives _
    case torqueGapCutOff => exact hg.cutTorque
    case torqueFramingError => exact hg.cutTorque
    case evaluation course => exact .ite (fun _ => hg) fun _ => h.evaluation hm course
    case reportArrival => exact hg.receive h.settings ..
    case goodFrame => exact hg.receiveChars h.settings ..
    case badFrame => exact hg.receiveBad
    case watchdogExpiry due => exact hg.watchdogDue due
    case attempt => exact hg.beginAttempt
    case contentionLost => exact .ite (fun _ => hg.endAttempt _) fun _ => hg
    case payloadBitLoss => exact hg.loseBit
    case faultyBitAbort => exact hg.faultBit
    case reportSent => exact .ite (fun _ => State.Governed.endAttempt (by exact hg.of_eq) _) fun _ => hg
    case answerSent => exact hg.answerDone h.settings
    case lineIdle => exact .ite (fun _ => hg.of_eq) fun _ => hg

/-- In START, the two commands that end it (R187, R189). -/
theorem State.Ruled.exec_start (h : s.Ruled) (hm : s.control.mode = .start) {c : Instr} (h1 : c ≠ .hardwareReset)
    (h2 : c ≠ .resetPinAsserted) (ht : exec c s = .next t) : t.Governed .settled := by
  have hg := h.governed
  obtain ⟨-, hpat, -⟩ := hg.test
  obtain ⟨-, -, -, -, hreset⟩ := h.start
  obtain ⟨hdrive, hline, hctl, hbal, -, hx, hslot, -, -, hstatus, hcounts, -, -, hq, -⟩ := hreset hm
  by_cases h3 : ∃ record, c = .startCheck record
  · obtain ⟨record, rfl⟩ := h3
    obtain rfl := Host.Outcome.next.inj ht
    refine .ite (fun _ => .ite (fun hgood => ?_) fun _ => ?_) fun _ => hg
    · obtain ⟨hi, -⟩ := recordImage_inRange hgood
      exact State.enterListen_governed hline hbal hctl hdrive hq hx hpat (FaultUnit.load_ok hi hstatus hcounts)
        (FaultUnit.not_fatal_of_unset hstatus)
    · let u : State :=
        { s with
          startUnit := StartUnit.atReset .over, fault := s.fault.load Image.fallback
          tracker := Tracker.atReset Image.fallback.floorRung }
      have hword : s.drive.lastWord = 0 := by rw [hdrive]; rfl
      have hu : u.Governed .settled :=
        State.governed_atReset (.inl hm) (hg.fade.outside (by rw [hm]; rfl)) hword hx hpat
          (FaultUnit.load_ok Image.fallback_inRange hstatus hcounts) (FaultUnit.not_fatal_of_unset hstatus)
      exact hu.takeNotice _
  by_cases h4 : c = .softStartEnd
  · subst h4
    obtain rfl := Host.Outcome.next.inj ht
    refine .ite (fun _ => ?_) fun _ => hg
    exact State.enterListen_governed hline hbal hctl hdrive hq hx hpat hg.unit (FaultUnit.not_fatal_of_unset hstatus)
  · rw [Machine.exec_start hm h1 h2 (fun record e => h3 ⟨record, e⟩) h4] at ht
    obtain rfl := Host.Outcome.next.inj ht
    exact hg

theorem State.Ruled.exec (h : s.Ruled) {c : Instr} (ht : exec c s = .next t) : t.Governed .settled := by
  by_cases h1 : c = .hardwareReset
  · subst h1
    obtain rfl := Host.Outcome.next.inj ht
    exact s.hardReset_governed .reading
  by_cases h2 : c = .resetPinAsserted
  · subst h2
    obtain rfl := Host.Outcome.next.inj ht
    exact s.hardReset_governed .pinHeld
  by_cases hm : s.control.mode = .start
  · exact h.exec_start hm h1 h2 ht
  · exact h.exec_working hm h1 h2 ht

/-- With no command the transmitter and the REFERENCE output alone move. -/
theorem State.Governed.idle (h : s.Governed g) : s.idle.Governed g := h.of_eq

end Commands

/-- Settles O59: every command keeps these laws over those of settings, START, tracker and drive link, and so does a
step with no command. -/
theorem stepKeepsModesAndFaults : Obligations.StepKeepsModesAndFaults := by
  intro s t hs hstep
  have hg : s.Governed .settled := State.governed_iff.mpr ⟨hs.authority, hs.test, hs.faults⟩
  refine State.governed_iff.mp ?_
  unfold step at hstep
  split at hstep
  next c rest _ =>
    have hq : ({ s with pending := rest } : State).Ruled := ⟨⟨hs.settings, hs.start, hs.tracker, hs.drive⟩, hg.of_eq⟩
    exact hq.exec hstep
  next =>
    obtain rfl := Host.Outcome.next.inj hstep
    exact hg.idle

end Sys2Proof.Machine
end

section
/-! SUPPORT. What the balance engine and the fade step make of a node, whatever the other works of an evaluation do
among them (R71 to R91, R95, R103, R104). -/

namespace Sys2Proof.Machine

/-! ### The fade step by its control and balance -/

/-- Phase and authority count after a fade step (R103, R104). -/
def ModeControl.faded (c : ModeControl) (length : Nat) : ModeControl :=
  if c.mode = .trim .fadeIn then
    { c with authority := c.authority + 1, mode := .trim (if c.authority + 1 = length then .full else .fadeIn) }
  else if c.mode = .trim .fadeOut then
    if c.authority ≤ 1 then { c with authority := 0, trim := 0, mode := .report }
    else { c with authority := c.authority - 1 }
  else c

/-- A fade-out is at its end: the next fade step takes the node to REPORT (R104). -/
abbrev ModeControl.Ending (c : ModeControl) : Prop := c.mode = .trim .fadeOut ∧ c.authority ≤ 1

/-- The balance engine after the fade step: cleared where it ends TRIM (R84 to R86, R104). -/
def Balance.faded (b : Balance) (c : ModeControl) : Balance :=
  if c.Ending then { b with integrator := 0, saturationRun := 0, shareRun := 0, groupShort := false } else b

theorem State.fadeStep_control (s : State) : s.fadeStep.control = s.control.faded s.image.fadeLength := by
  unfold State.fadeStep ModeControl.faded
  split
  next hm => split <;> simp [*, State.changePhase]
  next hm => split <;> simp [*, State.changeMode, State.zeroAuthority]
  next hin hout => rw [if_neg hin, if_neg hout]

theorem State.fadeStep_balance (s : State) : s.fadeStep.balance = s.balance.faded s.control := by
  unfold State.fadeStep Balance.faded ModeControl.Ending
  split
  next hm => split <;> simp [hm]
  next hm => split <;> simp [*, State.changeMode, State.zeroAuthority]
  next _ hout => rw [if_neg fun h => hout h.1]

/-! ### Nodes that the engine and the fade step do not tell apart -/

/-- All that the balance engine and the fade step look at in `t` is as in `s`. -/
structure State.Abreast (t s : State) : Prop where
  control : t.control = s.control
  balance : t.balance = s.balance
  startUnit : t.startUnit = s.startUnit
  tracker : t.tracker = s.tracker
  handler : t.handler = s.handler
  drive : t.DriveIs s.drive
  table : t.SameTable s
  classMap : t.fault.classMap = s.fault.classMap
  detectMask : t.fault.detectMask = s.fault.detectMask

theorem State.Abreast.refl (s : State) : s.Abreast s := ⟨rfl, rfl, rfl, rfl, rfl, rfl, .refl s, rfl, rfl⟩

section Abreast

variable {s t u : State}

theorem State.DriveIs.trans {d : DriveLink} (h : u.DriveIs t.drive) (h' : t.DriveIs d) : u.DriveIs d := by
  unfold State.DriveIs at h h' ⊢
  rw [h, h']

theorem State.Abreast.trans (h : u.Abreast t) (h' : t.Abreast s) : u.Abreast s :=
  ⟨h.control.trans h'.control, h.balance.trans h'.balance, h.startUnit.trans h'.startUnit, h.tracker.trans h'.tracker,
    h.handler.trans h'.handler, h.drive.trans h'.drive, h.table.trans h'.table, h.classMap.trans h'.classMap,
    h.detectMask.trans h'.detectMask⟩

theorem State.Abreast.image (h : t.Abreast s) : t.image = s.image := by rw [State.image, h.startUnit]; rfl

/-! ### The close, the fade step and the engine -/

theorem State.Abreast.close (h : t.Abreast s) : t.closeAccumulator.Abreast s.closeAccumulator :=
  ⟨h.control, h.balance, h.startUnit, h.tracker, h.handler, h.drive.close, h.table, h.classMap, h.detectMask⟩

theorem State.driveIs_fadeStep (s : State) : s.fadeStep.DriveIs s.drive := s.work_drive .listen (w := .fadeStep) nofun

/-- A drive link read through another that differs in the posted notice alone. -/
theorem State.DriveIs.symm (h : t.DriveIs s.drive) : s.DriveIs t.drive := by
  unfold State.DriveIs at h ⊢
  rw [h]

theorem State.Abreast.fadeStep (h : t.Abreast s) : t.fadeStep.Abreast s.fadeStep := by
  refine ⟨?_, ?_, ?_, ?_, ?_, ?_, ?_, ?_, ?_⟩
  · rw [State.fadeStep_control, State.fadeStep_control, h.control, h.image]
  · rw [State.fadeStep_balance, State.fadeStep_balance, h.control, h.balance]
  · simpa using h.startUnit
  · simpa using h.tracker
  · simpa using h.handler
  · exact t.driveIs_fadeStep.trans (h.drive.trans s.driveIs_fadeStep.symm)
  · exact (State.sameTable_of_peers (by simp)).trans (h.table.trans (State.sameTable_of_peers (by simp)))
  · simpa using h.classMap
  · simpa using h.detectMask

theorem State.Abreast.held (h : t.Abreast s) : t.drive.held = s.drive.held := by rw [h.drive]

theorem State.Abreast.stale (h : t.Abreast s) : t.drive.stale = s.drive.stale := by
  unfold DriveLink.stale
  rw [h.drive]

/-- The group looks at no field of an entry that is the observer's. -/
theorem State.Abreast.peerMembers (h : t.Abreast s) : t.peerMembers = s.peerMembers := by
  have hown : t.own = s.own := congrArg Image.station h.image
  unfold State.peerMembers
  rw [h.image]
  split
  next => rfl
  next =>
    refine List.filterMap_congr fun k _ => ?_
    have hmember : (t.peer k).member? s.image.group = (s.peer k).member? s.image.group := by
      obtain ⟨hstate, hstored⟩ := PeerEntry.state_stored_of_table (h.table k)
      rw [PeerEntry.member?, hstate, hstored]
      rfl
    rw [State.isKey, State.isKey, hown, hmember]

theorem State.Abreast.shareResult (h : t.Abreast s) : t.shareResult = s.shareResult := by
  have hreason : t.ownReason = s.ownReason := by
    unfold State.ownReason
    rw [h.tracker, h.stale, h.image, h.control]
  have hgroup : t.group = s.group := by
    unfold State.group State.ownMember
    rw [hreason, h.peerMembers, h.held, h.image, h.balance]
  unfold State.shareResult State.assess State.decline
  rw [hreason, hgroup, h.held, h.image, h.control, h.handler]

theorem State.Abreast.balanced (h : t.Abreast s) : t.balanced = s.balanced := by
  unfold State.balanced
  rw [h.shareResult, h.balance, h.control, h.handler]

/-- The engine's work without its notices. -/
def State.engaged (s : State) : State := if s.control.mode.lineOn then { s with balance := s.balanced } else s

/-- The engine's work, its notices apart, is on the balance engine alone. -/
@[simp] theorem State.engaged_frame (s : State) :
    s.engaged.control = s.control ∧ s.engaged.startUnit = s.startUnit ∧ s.engaged.tracker = s.tracker
      ∧ s.engaged.handler = s.handler ∧ s.engaged.drive = s.drive ∧ s.engaged.peers = s.peers
      ∧ s.engaged.excitation = s.excitation ∧ s.engaged.fault = s.fault := by
  unfold State.engaged
  split <;> exact ⟨rfl, rfl, rfl, rfl, rfl, rfl, rfl, rfl⟩

theorem State.Abreast.engaged (h : t.Abreast s) : t.engaged.Abreast s.engaged := by
  unfold State.engaged
  by_cases hon : s.control.mode.lineOn = true
  · rw [if_pos hon, if_pos (by rwa [h.control])]
    exact ⟨h.control, h.balanced, h.startUnit, h.tracker, h.handler, h.drive, h.table, h.classMap, h.detectMask⟩
  · rwa [if_neg hon, if_neg (by rwa [h.control])]

/-! ### A work, its notices apart -/

/-- What each work does to all that the engine and the fade step look at. -/
def State.core (s : State) : EvalWork → State
  | .accumulatorClose => s.closeAccumulator
  | .fadeStep => s.fadeStep
  | .balanceEngine => s.engaged
  | _ => s

theorem State.Abreast.core (h : t.Abreast s) (w : EvalWork) : (t.core w).Abreast (s.core w) := by
  cases w with
  | accumulatorClose => exact h.close
  | fadeStep => exact h.fadeStep
  | balanceEngine => exact h.engaged
  | staleNotice => exact h
  | drawVerifier => exact h
  | excitationUnit => exact h
  | couplingObserver => exact h

/-- A test that does not end at the excitation unit's next work. -/
def State.Unending (s : State) : Prop :=
  s.control.mode = .test → ∀ p, s.excitation.pattern = some p → s.excitation.position + 1 ≠ p.hold

/-- Where a test does not end, its step moves the excitation unit alone. -/
theorem State.runStep_unending {p : Pattern} (h : s.excitation.position + 1 ≠ p.hold) :
    s.runStep p = { s with excitation := (s.checkResponse p).advance p } := by
  have hpast : ((s.checkResponse p).advance p).past p = false := by
    have hadv : (s.checkResponse p).advance p
        = { s.checkResponse p with position := s.excitation.position + 1 } := if_neg h
    simp [hadv, Excitation.past]
  unfold State.runStep
  rw [if_neg (by simp [hpast])]

/-- The kinds that the balance engine may send (R84 to R86). -/
abbrev shareKinds : List Kind := [.groupShort, .trimSaturated, .shareTol]

theorem eq_notice_of_mem {c : Prop} [Decidable c] {k : Kind} {n : Notice}
    (h : n ∈ (if c then [notice k 0] else [])) : n = notice k 0 := by
  split at h
  · exact List.mem_singleton.mp h
  · cases h

theorem State.balanceNotices_kind (s : State) {n : Notice} (hn : n ∈ s.balanceNotices) : n.kind ∈ shareKinds := by
  simp only [State.balanceNotices, List.mem_append] at hn
  rcases hn with (hn | hn) | hn <;> rw [eq_notice_of_mem hn] <;> decide

theorem State.balanceWork_on (hon : s.control.mode.lineOn = true) :
    s.balanceWork = s.engaged.takeNotices s.balanceNotices := by
  rw [State.balanceWork, State.engaged, if_pos hon, if_pos hon]

theorem State.balanceWork_engaged (s : State) : s.balanceWork.Notifies s.engaged := by
  by_cases hon : s.control.mode.lineOn = true
  · have hkinds : ∀ k ∈ shareKinds, k ∈ workKinds := by decide
    exact .inr ⟨_, fun n hn => hkinds _ (s.balanceNotices_kind hn), State.balanceWork_on hon⟩
  · exact .inl (by rw [State.balanceWork, State.engaged, if_neg hon, if_neg hon])

/-- All that a work besides the stale notice does to control and balance: its part in what the engine and the fade step
look at, and its notices. -/
theorem State.work_core (began : Mode) (s : State) {w : EvalWork} (hn : w ≠ .staleNotice)
    (hx : w = .excitationUnit → s.Unending) :
    ∃ u : State, u.control = (s.core w).control ∧ u.balance = (s.core w).balance ∧ u.fault = s.fault
      ∧ (w ≠ .excitationUnit → u.excitation = s.excitation) ∧ (s.work began w).Notifies u := by
  cases w with
  | accumulatorClose => exact ⟨_, rfl, rfl, rfl, fun _ => rfl, .inl rfl⟩
  | staleNotice => exact absurd rfl hn
  | fadeStep => exact ⟨_, rfl, rfl, by simp [State.core], fun _ => by simp [State.core], .inl rfl⟩
  | balanceEngine => exact ⟨s.engaged, rfl, rfl, by simp, fun _ => by simp, s.balanceWork_engaged⟩
  | drawVerifier =>
    rcases s.drawWork_notifies with h | h
    · exact ⟨s, rfl, rfl, rfl, fun _ => rfl, .inl h⟩
    · exact ⟨{ s with draw := s.verified }, rfl, rfl, rfl, fun _ => rfl, h⟩
  | excitationUnit =>
    show ∃ u : State, _ ∧ _ ∧ _ ∧ _ ∧ s.excitationWork.Notifies u
    unfold State.excitationWork
    split
    next p hm hp =>
      rw [State.runStep_unending (hx rfl hm p hp)]
      split
      · refine ⟨_, ?_, ?_, ?_, fun h => absurd rfl h, .single _ (notice .testLimit 0) (by decide)⟩ <;> rfl
      · refine ⟨_, ?_, ?_, ?_, fun h => absurd rfl h, .inl rfl⟩ <;> rfl
    next => exact ⟨s, rfl, rfl, rfl, fun _ => rfl, .inl rfl⟩
  | couplingObserver =>
    show ∃ u : State, _ ∧ _ ∧ _ ∧ _ ∧ s.observeEvaluation.Notifies u
    unfold State.observeEvaluation
    split
    · obtain ⟨u, ⟨hc, -, hb, hx, hf⟩, h⟩ := s.observe_notifies
      exact ⟨u, hc, hb, hf, fun _ => hx, h⟩
    · exact ⟨s, rfl, rfl, rfl, fun _ => rfl, .inl rfl⟩

/-- Besides the close, a work's part is in control, balance and the posted notice alone. -/
theorem State.core_frame (s : State) {w : EvalWork} (hw : w ≠ .accumulatorClose) :
    (s.core w).startUnit = s.startUnit ∧ (s.core w).tracker = s.tracker ∧ (s.core w).handler = s.handler
      ∧ (s.core w).DriveIs s.drive ∧ (s.core w).peers = s.peers ∧ (s.core w).fault = s.fault := by
  cases w with
  | accumulatorClose => exact absurd rfl hw
  | fadeStep =>
    have hdrive := s.driveIs_fadeStep
    simp [State.core, hdrive]
  | balanceEngine => simp [State.core, State.DriveIs]
  | _ => exact ⟨rfl, rfl, rfl, rfl, rfl, rfl⟩

/-- Besides control and balance, a work does no more to what the engine and the fade step look at than its part. -/
theorem State.abreast_core {began : Mode} {w : EvalWork} (hc : (s.work began w).control = (s.core w).control)
    (hb : (s.work began w).balance = (s.core w).balance) : (s.work began w).Abreast (s.core w) := by
  by_cases hw : w = .accumulatorClose
  · subst hw
    exact .refl _
  obtain ⟨hunit, htracker, hhandler, hlink, hpeers, hfault⟩ := s.core_frame hw
  have htable := (s.tableAgrees_work began w).entries
  have hdrive : (s.work began w).DriveIs s.drive := s.work_drive began hw
  exact ⟨hc, hb, by simp [hunit], by simp [htracker], by simp [hhandler], hdrive.trans hlink.symm,
    htable.trans (State.sameTable_of_peers hpeers.symm), by simp [hfault], by simp [hfault]⟩

/-! ### Notices that drop no authority -/

/-- A set of notices that requests no drop is recorded and no more. -/
theorem State.takeNotices_undropped {ns : List Notice} (h : s.fault.requestsDrop ns = false) :
    s.takeNotices ns = s.recordNotices ns := by
  unfold State.takeNotices
  rw [if_neg (by simp [h])]

/-- After a set of notices that requests a drop the node is not in TRIM (R110). -/
theorem State.takeNotices_dropped {ns : List Notice} (h : s.fault.requestsDrop ns = true) :
    (s.takeNotices ns).control.mode.isTrim = false := by
  unfold State.takeNotices
  rw [if_pos h]
  generalize s.fault.dropsToHold ns = hold
  unfold State.tripDrop
  split <;> cases hold <;> simp_all [Mode.isTrim, State.toHold]

/-- A node in TRIM after a set of notices has recorded it and no more. -/
theorem State.takeNotices_trim {ns : List Notice} (h : (s.takeNotices ns).control.mode.isTrim = true) :
    s.takeNotices ns = s.recordNotices ns := by
  refine State.takeNotices_undropped (Bool.eq_false_iff.mpr fun hd => ?_)
  rw [State.takeNotices_dropped hd] at h
  cases h

/-- The works' notices where their kinds are WARN class, or where the node is in TRIM after them. -/
theorem State.Notifies.undropped {u : State} (h : t.Notifies u)
    (hk : u.fault.classMap &&& 0x3780 = 0 ∨ t.control.mode.isTrim = true) :
    t.control = u.control ∧ t.balance = u.balance ∧ t.excitation = u.excitation := by
  rcases h with rfl | ⟨ns, hns, rfl⟩
  · exact ⟨rfl, rfl, rfl⟩
  · have hrecord : u.takeNotices ns = u.recordNotices ns := by
      refine hk.elim (fun hwarn => State.takeNotices_undropped ?_) State.takeNotices_trim
      rw [FaultUnit.requestsDrop, List.any_eq_false]
      intro n hn
      rw [workKinds_warn hwarn (hns n (List.mem_of_mem_filter hn))]
      exact Bool.false_ne_true
    rw [hrecord]
    simp

/-! ### The works one after the other -/

/-- A node in TRIM after an operation of an evaluation was in TRIM before it. -/
theorem State.Moves.isTrim (h : t.Moves s) (ht : t.control.mode.isTrim = true) : s.control.mode.isTrim = true := by
  rcases s.control.mode.authority_cases with hs | hs | ⟨hs, -⟩
  · exact hs
  · rcases h.test hs with hm | ⟨hm, -⟩ <;> simp [hm, Mode.isTrim] at ht
  · rwa [(h.still hs).1] at ht

/-- A node in TEST after an operation of an evaluation was in TEST before it. -/
theorem State.Moves.inTest (h : t.Moves s) (ht : t.control.mode = .test) : s.control.mode = .test := by
  rcases s.control.mode.authority_cases with hs | hs | ⟨hs, -⟩
  · rcases h.trim hs with hm | ⟨hm, -⟩ <;> simp [ht, Mode.isTrim] at hm
  · exact hs
  · rwa [(h.still hs).1] at ht

theorem State.moves_works (began : Mode) (l : List EvalWork) (s : State) : (l.foldl (State.work began) s).Moves s :=
  List.foldlRecOn (motive := fun t : State => t.Moves s) l _ (.refl s) fun t ht v _ => (t.moves_work began v).trans ht

/-- The stale notice where the node is in TRIM after it. -/
theorem State.staleNotice_trim {began : Mode} (h : (s.staleNotice began).control.mode.isTrim = true) :
    (s.staleNotice began).control = s.control ∧ (s.staleNotice began).balance = s.balance := by
  unfold State.staleNotice at h ⊢
  split
  next hc =>
    rw [if_pos hc] at h
    rw [State.takeNotice, State.takeNotices_trim h]
    simp
  next => exact ⟨rfl, rfl⟩

/-- In TRIM to their end, the works do no more than their parts to what the engine and the fade step look at. -/
theorem State.abreast_works_trim {began : Mode} (l : List EvalWork) (h : t.Abreast s)
    (ht : (l.foldl (State.work began) t).control.mode.isTrim = true) :
    (l.foldl (State.work began) t).Abreast (l.foldl State.core s) := by
  induction l generalizing s t with
  | nil => exact h
  | cons w l ih =>
    refine ih (State.Abreast.trans ?_ (h.core w)) ht
    have hthere := (State.moves_works began l (t.work began w)).isTrim ht
    have hhere := (t.moves_work began w).isTrim hthere
    by_cases hn : w = .staleNotice
    · subst hn
      obtain ⟨hc, hb⟩ := State.staleNotice_trim hthere
      exact State.abreast_core hc hb
    · have hx : t.Unending := fun e => by simp [e, Mode.isTrim] at hhere
      obtain ⟨u, hc, hb, -, -, hnote⟩ := t.work_core began hn fun _ => hx
      obtain ⟨hc', hb', -⟩ := hnote.undropped (.inr hthere)
      exact State.abreast_core (hc'.trans hc) (hb'.trans hb)

/-- With the works' kinds in WARN class and no test ending they do no more either; the stale notice apart. -/
theorem State.abreast_works_warn {began : Mode} (hbegan : began.hasAuthority = false) {l : List EvalWork}
    (hnodup : l.Nodup) (h : t.Abreast s) (hwarn : t.fault.classMap &&& 0x3780 = 0)
    (hx : .excitationUnit ∈ l → t.Unending) :
    (l.foldl (State.work began) t).Abreast (l.foldl State.core s) := by
  induction l generalizing s t with
  | nil => exact h
  | cons w l ih =>
    obtain ⟨hw, hrest⟩ := List.nodup_cons.mp hnodup
    by_cases hn : w = .staleNotice
    · subst hn
      have hidle : t.work began .staleNotice = t := if_neg fun ⟨_, ha⟩ => by simp [ha] at hbegan
      rw [List.foldl_cons, hidle]
      exact ih hrest h hwarn fun hm => hx (List.mem_cons_of_mem _ hm)
    · obtain ⟨u, hc, hb, hf, hsame, hnote⟩ := t.work_core began hn fun e => hx (e ▸ List.mem_cons_self)
      obtain ⟨hc', hb', hx'⟩ := hnote.undropped (.inl (by rwa [hf]))
      refine ih hrest ((State.abreast_core (hc'.trans hc) (hb'.trans hb)).trans (h.core w)) (by simpa using hwarn) ?_
      intro hm hmode
      rw [hx'.trans (hsame fun e => hw (e ▸ hm))]
      exact hx (List.mem_cons_of_mem _ hm) ((t.moves_work began w).inTest hmode)

end Abreast

end Sys2Proof.Machine
end

section
/-! SUPPORT. The works of an evaluation cut at the balance engine's (R23, R71 to R91, R95, R103, R104). -/

namespace Sys2Proof.Machine

/-! ### The order of the engine and the fade step -/

/-- The fade step comes before the balance engine's work in this order of the works. -/
abbrev StepFirst (order : List EvalWork) : Prop :=
  (scheduleOf order).idxOf .fadeStep < (scheduleOf order).idxOf .balanceEngine

/-- An order of the works cut at the engine's: before it the close, the fade step where it comes first, and others. -/
structure EngineCut (order pre post : List EvalWork) : Prop where
  eq : scheduleOf order = pre ++ .balanceEngine :: post
  nodup : pre.Nodup ∧ post.Nodup
  engine : .balanceEngine ∉ pre ∧ .balanceEngine ∉ post
  close : .accumulatorClose ∈ pre ∧ .accumulatorClose ∉ post
  fadeBefore : .fadeStep ∈ pre ↔ StepFirst order
  fadeAfter : .fadeStep ∈ post ↔ ¬ StepFirst order

/-- A list without repetition cut at one of its members: before it what has the smaller index. -/
theorem mem_cut_of_nodup {α : Type} [DecidableEq α] {l pre post : List α} {a b : α} (hn : l.Nodup)
    (hl : l = pre ++ a :: post) (hb : b ∈ l) (hne : b ≠ a) :
    (b ∈ pre ↔ l.idxOf b < l.idxOf a) ∧ (b ∈ post ↔ ¬ l.idxOf b < l.idxOf a) := by
  subst hl
  have ha : a ∉ pre ++ post := (List.nodup_cons.mp (List.nodup_middle.mp hn)).1
  have hplace : (pre ++ a :: post).idxOf a = pre.length := by
    rw [List.idxOf_append_of_notMem fun h => ha (List.mem_append_left _ h), List.idxOf_cons_self, Nat.add_zero]
  have hpre : b ∈ pre ↔ (pre ++ a :: post).idxOf b < (pre ++ a :: post).idxOf a := by
    rw [hplace]
    constructor
    · intro h
      rw [List.idxOf_append_of_mem h]
      exact List.idxOf_lt_length_of_mem h
    · intro h
      by_contra hout
      rw [List.idxOf_append_of_notMem hout] at h
      omega
  refine ⟨hpre, ?_⟩
  rw [← hpre]
  constructor
  · exact fun h h' => List.disjoint_of_nodup_append (List.nodup_cons.mp (List.nodup_middle.mp hn)).2 h' h
  · intro h
    simpa [h, hne] using hb

theorem engineCut (order : List EvalWork) : ∃ pre post, EngineCut order pre post := by
  obtain ⟨pre, post, hl⟩ := List.append_of_mem (mem_scheduleOf order .balanceEngine)
  have hnodup := scheduleOf_nodup order
  have hcut := fun w => mem_cut_of_nodup (b := w) hnodup hl (mem_scheduleOf order w)
  obtain ⟨hclose, hclose'⟩ := hcut .accumulatorClose nofun
  obtain ⟨hfade, hfade'⟩ := hcut .fadeStep nofun
  obtain ⟨-, hfirst, -⟩ := scheduleOf_before order
  have hfirst := of_decide_eq_true hfirst
  rw [hl] at hnodup
  obtain ⟨hengine, hrest⟩ := List.nodup_cons.mp (List.nodup_middle.mp hnodup)
  obtain ⟨hpre, hpost, -⟩ := List.nodup_append.mp hrest
  rw [List.mem_append, not_or] at hengine
  exact ⟨pre, post, hl, ⟨hpre, hpost⟩, hengine, ⟨hclose.mpr hfirst, fun h => hclose'.mp h hfirst⟩, hfade, hfade'⟩

section Cut

variable {s t : State}

/-! ### The parts of the works -/

/-- The close and the fade step of these works. -/
def State.passed (s : State) (l : List EvalWork) : State :=
  let closed := if .accumulatorClose ∈ l then s.closeAccumulator else s
  if .fadeStep ∈ l then closed.fadeStep else closed

/-- The close and the fade step do not look at each other. -/
theorem State.fadeStep_close (s : State) : s.fadeStep.closeAccumulator.Abreast s.closeAccumulator.fadeStep := by
  refine ⟨?_, ?_, ?_, ?_, ?_, ?_, ?_, ?_, ?_⟩
  · rw [State.fadeStep_control]
    exact s.fadeStep_control
  · rw [State.fadeStep_balance]
    exact s.fadeStep_balance
  · simp [State.closeAccumulator_eq]
  · simp [State.closeAccumulator_eq]
  · simp [State.closeAccumulator_eq]
  · exact (s.driveIs_fadeStep.close).trans s.closeAccumulator.driveIs_fadeStep.symm
  · exact State.sameTable_of_peers (by simp [State.closeAccumulator_eq])
  · simp [State.closeAccumulator_eq]
  · simp [State.closeAccumulator_eq]

theorem State.abreast_passed {l : List EvalWork} (hnodup : l.Nodup) (he : .balanceEngine ∉ l) (s : State) :
    (l.foldl State.core s).Abreast (s.passed l) := by
  induction l generalizing s with
  | nil => exact .refl s
  | cons w l ih =>
    obtain ⟨hw, hrest⟩ := List.nodup_cons.mp hnodup
    have hl := ih hrest fun h => he (List.mem_cons_of_mem _ h)
    cases w with
    | balanceEngine => exact absurd List.mem_cons_self he
    | accumulatorClose =>
      have hpass : s.passed (.accumulatorClose :: l) = s.closeAccumulator.passed l := by simp [State.passed, hw]
      rw [hpass]
      exact hl _
    | fadeStep =>
      refine (hl s.fadeStep).trans ?_
      by_cases hc : .accumulatorClose ∈ l
      · simpa [State.passed, hw, hc] using s.fadeStep_close
      · simpa [State.passed, hw, hc] using .refl s.fadeStep
    | _ => simpa [State.passed, State.core] using hl s

/-- What the engine finds (R95). -/
def State.beforeEngine (s : State) (order : List EvalWork) : State :=
  if StepFirst order then s.closeAccumulator.fadeStep else s.closeAccumulator

/-- What the engine and the fade step leave (R95). -/
def State.afterEngine (s : State) (order : List EvalWork) : State :=
  if StepFirst order then (s.beforeEngine order).engaged else (s.beforeEngine order).engaged.fadeStep

theorem State.Abreast.core_foldl (h : t.Abreast s) (l : List EvalWork) :
    (l.foldl State.core t).Abreast (l.foldl State.core s) := by
  induction l generalizing s t with
  | nil => exact h
  | cons w l ih => exact ih (h.core w)

/-- The parts of the works before the engine's. -/
theorem EngineCut.before {order pre post : List EvalWork} (h : EngineCut order pre post) (s : State) :
    (pre.foldl State.core s).Abreast (s.beforeEngine order) := by
  have hpass : s.passed pre = s.beforeEngine order := by
    simp [State.passed, State.beforeEngine, h.close.1, h.fadeBefore]
  exact hpass ▸ State.abreast_passed h.nodup.1 h.engine.1 s

/-- The parts of all works. -/
theorem EngineCut.parts {order pre post : List EvalWork} (h : EngineCut order pre post) (s : State) :
    ((scheduleOf order).foldl State.core s).Abreast (s.afterEngine order) := by
  have hpass : (s.beforeEngine order).engaged.passed post = s.afterEngine order := by
    by_cases hfirst : StepFirst order <;> simp [State.passed, State.afterEngine, h.close.2, h.fadeAfter, hfirst]
  rw [h.eq, List.foldl_append, List.foldl_cons, ← hpass]
  exact ((h.before s).engaged.core_foldl post).trans (State.abreast_passed h.nodup.2 h.engine.2 _)

/-! ### The works around the engine's -/

/-- The stale notice where the stale run does not become 3: the works are as in a mode without authority. -/
theorem State.runWorks_not_lapsing (h : ¬ s.Lapsing) (order : List EvalWork) :
    s.runWorks order = (scheduleOf order).foldl (State.work .listen) s := by
  have hwork : ∀ (t : State) (w : EvalWork), w ≠ .staleNotice → t.work s.control.mode w = t.work .listen w := by
    intro t w hw
    cases w with
    | staleNotice => exact absurd rfl hw
    | _ => rfl
  obtain ⟨hab, -, -⟩ := scheduleOf_before order
  obtain ⟨l₁, l₂, l₃, hl, hother⟩ := scheduleOf_cut hab
  simp only [List.mem_append] at hother
  have hsame : ∀ (l : List EvalWork) (t : State), (∀ v ∈ l, v ≠ .staleNotice) →
      l.foldl (State.work s.control.mode) t = l.foldl (State.work .listen) t :=
    fun l t hv => List.foldl_ext _ _ _ fun u v hm => hwork u v (hv v hm)
  have hdrive₁ : (l₁.foldl (State.work .listen) s).DriveIs s.drive :=
    List.foldlRecOn (motive := fun t : State => t.DriveIs s.drive) l₁ _ s.driveIs_self fun t ht v hv =>
      ht.of_drive (t.work_drive _ (hother v (.inl (.inl hv))).1)
  have hdrive₂ : (l₂.foldl (State.work .listen) (l₁.foldl (State.work .listen) s).closeAccumulator).DriveIs
      s.drive.closed :=
    List.foldlRecOn (motive := fun t : State => t.DriveIs s.drive.closed) l₂ _ hdrive₁.close fun t ht v hv =>
      ht.of_drive (t.work_drive _ (hother v (.inl (.inr hv))).1)
  rw [State.runWorks_nil, hl]
  simp only [List.foldl_append, List.foldl_cons]
  rw [hsame l₁ _ fun v hv => (hother v (.inl (.inl hv))).2, hwork _ .accumulatorClose nofun,
    hsame l₂ _ fun v hv => (hother v (.inl (.inr hv))).2, hsame l₃ _ fun v hv => (hother v (.inr hv)).2]
  congr 1
  exact (State.staleNotice_not_lapsing h hdrive₂).trans (if_neg fun ⟨_, ha⟩ => by cases ha).symm

/-- In TRIM to their end, the works leave what the engine and the fade step look at as their parts leave it. -/
theorem State.runWorks_trim (order : List EvalWork) (ht : (s.runWorks order).control.mode.isTrim = true) :
    (s.runWorks order).Abreast (s.afterEngine order) := by
  obtain ⟨pre, post, hcut⟩ := engineCut order
  rw [State.runWorks_nil] at ht ⊢
  exact (State.abreast_works_trim _ (.refl s) ht).trans (hcut.parts s)

/-! ### The notices of the other works -/

/-- The flag and count of the kind at this place stand in `g` as in `f`. -/
structure FaultUnit.Spares (i : Fin 16) (g f : FaultUnit) : Prop where
  status : g.status.getLsbD i = f.status.getLsbD i
  count : g.counts[i] = f.counts[i]

theorem FaultUnit.Spares.refl (i : Fin 16) (f : FaultUnit) : f.Spares i f := ⟨rfl, rfl⟩

theorem FaultUnit.Spares.trans {i : Fin 16} {f g h : FaultUnit} (a : h.Spares i g) (b : g.Spares i f) : h.Spares i f :=
  ⟨a.status.trans b.status, a.count.trans b.count⟩

theorem FaultUnit.spares_count {i : Fin 16} (f : FaultUnit) {n : Notice} (h : n.kind.number - 1 ≠ i) :
    (f.count n).Spares i f := by
  refine ⟨?_, ?_⟩
  · rw [FaultUnit.count_status, decide_eq_false h.symm, Bool.or_false]
  · exact (f.count_counts n i.isLt).trans (if_neg h.symm)

/-- Notices of other kinds, or of a masked one. -/
theorem State.spares_takeNotices {i : Fin 16} (s : State) {ns : List Notice}
    (h : ∀ n ∈ ns, n.kind.number - 1 = i → s.fault.masked n.kind) : (s.takeNotices ns).fault.Spares i s.fault := by
  have hcount : ((s.fault.live ns).foldl FaultUnit.count s.fault).Spares i s.fault := by
    refine List.foldlRecOn (motive := fun f : FaultUnit => f.Spares i s.fault) _ _ (.refl i _) fun f hf n hn =>
      (f.spares_count fun hk => ?_).trans hf
    obtain ⟨hmem, hlive⟩ := List.mem_filter.mp hn
    have hmask : holds s.fault.detectMask n.kind = true := h n hmem hk
    simp [hmask] at hlive
  rw [State.takeNotices_fault]
  exact ⟨by simpa [State.recordNotices, FaultUnit.driveLines] using hcount.status,
    by simpa [State.recordNotices, FaultUnit.driveLines] using hcount.count⟩

/-- One notice of a kind that is not masked, among others of other kinds, sets and counts it (R163). -/
theorem State.takeNotices_counts {i : Fin 16} (s : State) {a b : List Notice} {n : Notice}
    (ha : ∀ m ∈ a, m.kind.number - 1 ≠ i) (hb : ∀ m ∈ b, m.kind.number - 1 ≠ i) (hn : n.kind.number - 1 = i)
    (hlive : holds s.fault.detectMask n.kind = false) :
    (s.takeNotices (a ++ n :: b)).fault.status.getLsbD i = true
      ∧ (s.takeNotices (a ++ n :: b)).fault.counts[i] = min 255 (s.fault.counts[i] + 1) := by
  have hother : ∀ (l : List Notice) (f : FaultUnit), (∀ m ∈ l, m.kind.number - 1 ≠ i) →
      ((s.fault.live l).foldl FaultUnit.count f).Spares i f := fun l f hl =>
    List.foldlRecOn (motive := fun g : FaultUnit => g.Spares i f) _ _ (.refl i _) fun g hg m hm =>
      (g.spares_count (hl m (List.mem_of_mem_filter hm))).trans hg
  have hsplit : s.fault.live (a ++ n :: b) = s.fault.live a ++ n :: s.fault.live b := by
    simp [FaultUnit.live, hlive]
  have hbefore := hother a s.fault ha
  have hafter := hother b (((s.fault.live a).foldl FaultUnit.count s.fault).count n) hb
  have hfault : ∀ g : FaultUnit, g = (s.fault.live (a ++ n :: b)).foldl FaultUnit.count s.fault →
      g.status.getLsbD i = true ∧ g.counts[i] = min 255 (s.fault.counts[i] + 1) := by
    rintro g rfl
    rw [hsplit, List.foldl_append, List.foldl_cons, hafter.status, hafter.count, ← hbefore.count,
      FaultUnit.count_status, hn]
    exact ⟨by simp, ((FaultUnit.count_counts _ n i.isLt).trans (if_pos hn.symm))⟩
  obtain ⟨hstatus, hcounts⟩ := hfault _ rfl
  rw [State.takeNotices_fault]
  exact ⟨by simpa [State.recordNotices, FaultUnit.driveLines] using hstatus,
    by simpa [State.recordNotices, FaultUnit.driveLines] using hcounts⟩

/-- The places of GROUP_SHORT, TRIM_SATURATED and SHARE_TOL (R160). -/
abbrev shareBits : List (Fin 16) := [7, 8, 9]

/-- The kinds of the other works (R23, R121, R139, R154). -/
abbrev otherKinds : List Kind := [.driveLink, .drawTol, .testLimit, .couplingMismatch]

theorem State.spares_takeNotice {i : Fin 16} (hi : i ∈ shareBits) {n : Notice} (hn : n.kind ∈ otherKinds)
    (hf : t.fault = s.fault) : (t.takeNotice n).fault.Spares i s.fault := by
  have hplace : ∀ k ∈ otherKinds, ∀ i ∈ shareBits, k.number - 1 ≠ i := by decide
  rw [← hf]
  exact t.spares_takeNotices fun m hm h => absurd h (List.mem_singleton.mp hm ▸ hplace _ hn i hi)

theorem FaultUnit.Spares.of_eq {i : Fin 16} {f g : FaultUnit} (h : g = f) : g.Spares i f := h ▸ .refl i g

theorem State.spares_giveVerdict {i : Fin 16} (hi : i ∈ shareBits) (hf : t.fault = s.fault) (k : Nat) :
    (t.giveVerdict k).fault.Spares i s.fault := by
  unfold State.giveVerdict
  dsimp only
  split
  · exact State.spares_takeNotice hi (by simp [notice]) (by simpa using hf)
  · exact .of_eq (by simpa using hf)

theorem State.spares_observe {i : Fin 16} (hi : i ∈ shareBits) (s : State) : s.observe.fault.Spares i s.fault := by
  unfold State.observe
  split
  · exact .refl i _
  · split <;> exact .of_eq (by simp)
  · split
    · exact .of_eq (by simp)
    · split <;> exact .of_eq (by simp)
  · split <;> exact .of_eq (by simp)
  · exact State.spares_giveVerdict hi (by simp) _
  · exact State.spares_giveVerdict hi (by simp) _

/-- Besides the engine no work sends a notice of the engine's kinds. -/
theorem State.spares_work (began : Mode) (s : State) {w : EvalWork} (hw : w ≠ .balanceEngine) {i : Fin 16}
    (hi : i ∈ shareBits) : (s.work began w).fault.Spares i s.fault := by
  cases w with
  | balanceEngine => exact absurd rfl hw
  | accumulatorClose => exact .refl i _
  | fadeStep => exact .of_eq (by simp [State.work])
  | staleNotice =>
    show (s.staleNotice began).fault.Spares i s.fault
    unfold State.staleNotice
    split
    · exact State.spares_takeNotice hi (by simp) rfl
    · exact .refl i _
  | drawVerifier =>
    show s.drawWork.fault.Spares i s.fault
    unfold State.drawWork
    dsimp only
    split
    · split
      · exact State.spares_takeNotice hi (by simp [notice]) rfl
      · exact .refl i _
    · exact .refl i _
  | excitationUnit =>
    show s.excitationWork.fault.Spares i s.fault
    unfold State.excitationWork
    split
    · dsimp only
      split
      · exact State.spares_takeNotice hi (by simp [notice]) (by simp)
      · exact .of_eq (by simp)
    · exact .refl i _
  | couplingObserver =>
    show s.observeEvaluation.fault.Spares i s.fault
    unfold State.observeEvaluation
    split
    · exact s.spares_observe hi
    · exact .refl i _

theorem State.spares_works (began : Mode) {l : List EvalWork} (hl : .balanceEngine ∉ l) (s : State) {i : Fin 16}
    (hi : i ∈ shareBits) : (l.foldl (State.work began) s).fault.Spares i s.fault :=
  List.foldlRecOn (motive := fun t : State => t.fault.Spares i s.fault) l _ (.refl i _) fun t ht _ hw =>
    (t.spares_work began (fun e => hl (e ▸ hw)) hi).trans ht

/-! ### The works as a whole -/

/-- With the works' kinds in WARN class, no lapse of the drive link and no test ending, the engine works on what the
works before it leave, the node ends as the parts of the works leave it, and the engine's notices alone count. -/
theorem State.runWorks_warn (order : List EvalWork) (hwarn : s.fault.classMap &&& 0x3780 = 0) (hlapse : ¬ s.Lapsing)
    (hx : s.Unending) :
    ∃ t : State, t.Abreast (s.beforeEngine order) ∧ (s.runWorks order).Abreast (s.afterEngine order)
      ∧ ∀ i ∈ shareBits, t.fault.Spares i s.fault ∧ (s.runWorks order).fault.Spares i t.balanceWork.fault := by
  obtain ⟨pre, post, hcut⟩ := engineCut order
  have hbegan : Mode.listen.hasAuthority = false := rfl
  have hruns : s.runWorks order
      = post.foldl (State.work .listen) (State.balanceWork (pre.foldl (State.work .listen) s)) := by
    rw [State.runWorks_not_lapsing hlapse, hcut.eq, List.foldl_append, List.foldl_cons]
    rfl
  refine ⟨pre.foldl (State.work .listen) s, ?_, ?_, fun i hi => ⟨?_, ?_⟩⟩
  · exact (State.abreast_works_warn hbegan hcut.nodup.1 (.refl s) hwarn fun _ => hx).trans (hcut.before s)
  · rw [State.runWorks_not_lapsing hlapse]
    exact (State.abreast_works_warn hbegan (scheduleOf_nodup order) (.refl s) hwarn fun _ => hx).trans (hcut.parts s)
  · exact State.spares_works _ hcut.engine.1 s hi
  · rw [hruns]
    exact State.spares_works _ hcut.engine.2 _ hi

end Cut

end Sys2Proof.Machine
end

section
/-! SUPPORT. The fade at an evaluation: its end in REPORT, its step and the applied trim (R81, R85, R86, R103 to R105,
R110). -/

namespace Sys2Proof.Machine

section Fade

variable {s : State} {order : List EvalWork}

/-! ### What the parts of the works come to -/

theorem ModeControl.faded_fadeIn {c : ModeControl} (h : c.mode = .trim .fadeIn) (n : Nat) :
    c.faded n
      = { c with authority := c.authority + 1, mode := .trim (if c.authority + 1 = n then .full else .fadeIn) } :=
  if_pos h

theorem ModeControl.faded_fadeOut {c : ModeControl} (h : c.mode = .trim .fadeOut) (n : Nat) :
    c.faded n = if c.authority ≤ 1 then { c with authority := 0, trim := 0, mode := .report }
      else { c with authority := c.authority - 1 } := by
  rw [ModeControl.faded, if_neg (by simp [h]), if_pos h]

theorem ModeControl.faded_other {c : ModeControl} (hin : c.mode ≠ .trim .fadeIn) (hout : c.mode ≠ .trim .fadeOut)
    (n : Nat) : c.faded n = c := by
  rw [ModeControl.faded, if_neg hin, if_neg hout]

theorem ModeControl.faded_lineOn (c : ModeControl) (n : Nat) : (c.faded n).mode.lineOn = c.mode.lineOn := by
  unfold ModeControl.faded
  split
  next h => rw [h]; rfl
  · split
    next h => split <;> simp [h, Mode.lineOn]
    next => rfl

/-- Phase and authority move by the fade step alone. -/
theorem State.afterEngine_control (s : State) (order : List EvalWork) :
    (s.afterEngine order).control = s.control.faded s.image.fadeLength := by
  unfold State.afterEngine State.beforeEngine
  by_cases h : StepFirst order
  · obtain ⟨hcontrol, -⟩ := s.closeAccumulator.fadeStep.engaged_frame
    rw [if_pos h, if_pos h, hcontrol, State.fadeStep_control]
    rfl
  · obtain ⟨hcontrol, hunit, -⟩ := s.closeAccumulator.engaged_frame
    rw [if_neg h, if_neg h, State.fadeStep_control, hcontrol, State.image, hunit]
    rfl

/-- The engine's work on what it finds, then cleared where the fade step comes later and ends TRIM. -/
theorem State.afterEngine_balance (hon : s.control.mode.lineOn = true) (order : List EvalWork) :
    (s.afterEngine order).balance
      = if StepFirst order then (s.beforeEngine order).balanced
        else (s.beforeEngine order).balanced.faded s.control := by
  unfold State.afterEngine State.beforeEngine
  by_cases h : StepFirst order
  · have hon' : s.closeAccumulator.fadeStep.control.mode.lineOn = true := by
      rw [State.fadeStep_control, ModeControl.faded_lineOn]
      exact hon
    rw [if_pos h, if_pos h, if_pos h, State.engaged, if_pos hon']
  · have hon' : s.closeAccumulator.control.mode.lineOn = true := hon
    rw [if_neg h, if_neg h, if_neg h, State.fadeStep_balance, State.engaged, if_pos hon']
    rfl

/-! ### The evaluation -/

theorem exec_evaluation (hm : s.control.mode ≠ .start) (order : List EvalWork) :
    exec (.evaluation { order := order }) s = .next (s.evaluated order).formReference :=
  execEvaluation_work order s hm

/-- What follows the works leaves the balance engine and the fault unit, and of the modes the applied trim alone. -/
theorem State.evaluated_formReference (s : State) (order : List EvalWork) :
    (s.evaluated order).formReference.control = (s.countEvaluation.runWorks order).applyTrim.control
      ∧ (s.evaluated order).formReference.balance = (s.countEvaluation.runWorks order).balance
      ∧ (s.evaluated order).formReference.fault = (s.countEvaluation.runWorks order).fault := by
  simp [State.evaluated]

theorem State.applyTrim_inside {t : State} (h : t.control.mode.isTrim = true) :
    t.applyTrim.control
      = { t.control with trim := truncDiv (t.balance.integrator * t.control.authority) t.image.fadeLength } := by
  rw [State.applyTrim, if_pos h]

/-- In FADE_OUT the engine holds integrator and saturation run, and the share-tolerance run is 0 (R81, R85, R86). -/
theorem State.balanced_fadeOut (h : s.control.mode = .trim .fadeOut) :
    s.balanced.integrator = s.balance.integrator ∧ s.balanced.saturationRun = s.balance.saturationRun
      ∧ s.balanced.shareRun = 0 := by
  simp [State.balanced, nextIntegrator, nextSaturation, nextShareRun, h]

/-- A fade-out that goes on (R81, R85, R86, R104). -/
theorem State.afterEngine_fadeOut (hm : s.control.mode = .trim .fadeOut) (ha : 1 < s.control.authority) :
    (s.afterEngine order).balance.integrator = s.balance.integrator
      ∧ (s.afterEngine order).balance.saturationRun = s.balance.saturationRun
      ∧ (s.afterEngine order).balance.shareRun = 0 := by
  have hend : ¬ s.control.Ending := fun h => absurd h.2 (by omega)
  have hgoes : ¬ s.control.authority ≤ 1 := by omega
  have hmode : (s.beforeEngine order).control.mode = .trim .fadeOut
      ∧ (s.beforeEngine order).balance = s.balance := by
    unfold State.beforeEngine
    split
    · rw [State.fadeStep_control, State.fadeStep_balance]
      have hclose : s.closeAccumulator.control = s.control ∧ s.closeAccumulator.balance = s.balance := ⟨rfl, rfl⟩
      rw [hclose.1, hclose.2, Balance.faded, if_neg hend]
      exact ⟨by simp [ModeControl.faded, hm, hgoes], rfl⟩
    · exact ⟨hm, rfl⟩
  obtain ⟨hmode, hbalance⟩ := hmode
  have hkeep := State.balanced_fadeOut hmode
  rw [hbalance] at hkeep
  rw [State.afterEngine_balance (by rw [hm]; rfl), Balance.faded, if_neg hend, ite_self]
  exact hkeep

theorem State.Calm.not_lapsing (h : s.Calm) : ¬ s.countEvaluation.Lapsing := fun ⟨hc, hr, _⟩ =>
  h.2.elim (fun h' => h' hc) fun h' => h' hr

/-- An evaluation that ends in TRIM: phase, authority count and applied trim (R103 to R105). -/
theorem State.evaluated_in_trim {p : Phase} (hm : s.control.mode = .trim p)
    (hin : (s.countEvaluation.runWorks order).control.mode.isTrim = true) :
    let t := (s.evaluated order).formReference
    (p = .fadeIn → t.control.authority = s.control.authority + 1
      ∧ t.control.mode = .trim (if s.control.authority + 1 = s.image.fadeLength then .full else .fadeIn))
    ∧ (p = .full → t.control.authority = s.control.authority ∧ t.control.mode = .trim .full)
    ∧ (p = .fadeOut → 1 < s.control.authority ∧ t.control.authority = s.control.authority - 1
      ∧ t.control.mode = .trim .fadeOut ∧ t.balance.integrator = s.balance.integrator
      ∧ t.balance.saturationRun = s.balance.saturationRun ∧ t.balance.shareRun = 0)
    ∧ t.control.trim = (t.balance.integrator * t.control.authority).tdiv s.image.fadeLength := by
  obtain ⟨hcontrol, hbalance, -⟩ := s.evaluated_formReference order
  have hparts := State.runWorks_trim order hin
  have hfade : (s.countEvaluation.runWorks order).control = s.countEvaluation.control.faded s.image.fadeLength := by
    rw [hparts.control, State.afterEngine_control]
    rfl
  have himage : (s.countEvaluation.runWorks order).image = s.image := by
    obtain ⟨-, hunit, -⟩ := s.countEvaluation.runWorks_frame order
    rw [State.image, hunit]
    rfl
  have hm' : s.countEvaluation.control.mode = .trim p := hm
  dsimp only
  rw [hcontrol, hbalance, State.applyTrim_inside hin, himage, hfade]
  refine ⟨?_, ?_, ?_, rfl⟩
  · rintro rfl
    rw [ModeControl.faded_fadeIn hm']
    exact ⟨rfl, rfl⟩
  · rintro rfl
    rw [ModeControl.faded_other (by simp [hm]) (by simp [hm])]
    exact ⟨rfl, hm⟩
  · rintro rfl
    have ha : ¬ s.countEvaluation.control.authority ≤ 1 := fun ha => by
      rw [hfade, ModeControl.faded_fadeOut hm', if_pos ha] at hin
      cases hin
    have ha' : 1 < s.control.authority := Nat.lt_of_not_le ha
    rw [ModeControl.faded_fadeOut hm', if_neg ha, hparts.balance]
    exact ⟨ha', rfl, hm, State.afterEngine_fadeOut hm' ha'⟩

end Fade

/-- Settles O21: the works in TRIM by their parts, and their end in TRIM by what each work may do to the mode. -/
theorem evaluationFadesTrim : Obligations.EvaluationFadesTrim := by
  intro order s p hm
  have htrim : s.control.mode.isTrim = true := by rw [hm]; rfl
  obtain ⟨hcontrol, hbalance, -⟩ := s.evaluated_formReference order
  have hmode : ∀ w : State, w.applyTrim.control.mode = w.control.mode := fun w => by
    unfold State.applyTrim
    split <;> rfl
  refine ⟨_, exec_evaluation (by simp [hm]) order, fun hout => ?_, fun hin => ?_, fun hcalm => ?_⟩
  · rw [hcontrol, hmode] at hout
    obtain ⟨hreport, ha, hy, hu⟩ :=
      ((s.countEvaluation.moves_runWorks order).trim htrim).resolve_left (by simp [hout])
    rw [hcontrol, hbalance, State.applyTrim_outside hout]
    exact ⟨hreport, ha, hy, hu⟩
  · rw [hcontrol, hmode] at hin
    exact State.evaluated_in_trim hm hin
  · obtain ⟨_, -, hparts, -⟩ := State.runWorks_warn (s := s.countEvaluation) order hcalm.1 hcalm.not_lapsing
      fun e => absurd (hm.symm.trans e) nofun
    have hm' : s.countEvaluation.control.mode = .trim p := hm
    rw [hcontrol, hmode, hparts.control, State.afterEngine_control]
    cases p with
    | fadeIn =>
      rw [ModeControl.faded_fadeIn hm']
      exact .inl rfl
    | full =>
      rw [ModeControl.faded_other (by simp [hm]) (by simp [hm])]
      exact .inl htrim
    | fadeOut =>
      rw [ModeControl.faded_fadeOut hm']
      split
      next ha => exact .inr ⟨rfl, ha⟩
      next => exact .inl htrim

end Sys2Proof.Machine
end

section
/-! SUPPORT. The balance engine at an evaluation: the group it finds, what it leaves, and its notices (R71 to R91). -/

namespace Sys2Proof.Machine

section Engine

variable {s t : State} {order : List EvalWork}

/-! ### What the engine finds -/

theorem State.beforeEngine_control (s : State) (order : List EvalWork) :
    (s.beforeEngine order).control = if StepFirst order then s.control.faded s.image.fadeLength else s.control := by
  unfold State.beforeEngine
  split
  · rw [State.fadeStep_control]
    rfl
  · rfl

theorem State.beforeEngine_balance (s : State) (order : List EvalWork) :
    (s.beforeEngine order).balance = if StepFirst order then s.balance.faded s.control else s.balance := by
  unfold State.beforeEngine
  split
  · rw [State.fadeStep_balance]
    rfl
  · rfl

@[simp] theorem State.beforeEngine_frame (s : State) (order : List EvalWork) :
    (s.beforeEngine order).startUnit = s.startUnit ∧ (s.beforeEngine order).tracker = s.tracker
      ∧ (s.beforeEngine order).handler = s.handler ∧ (s.beforeEngine order).peers = s.peers
      ∧ (s.beforeEngine order).control.evaluations = s.control.evaluations
      ∧ (s.beforeEngine order).drive.held = s.drive.closed.held
      ∧ (s.beforeEngine order).drive.staleRun = s.drive.closed.staleRun := by
  unfold State.beforeEngine
  split <;> simp [State.closeAccumulator_eq]

theorem State.beforeEngine_image (s : State) (order : List EvalWork) : (s.beforeEngine order).image = s.image := by
  simp [State.image]

/-- The fade step neither enters nor leaves TEST. -/
theorem ModeControl.faded_test (c : ModeControl) (n : Nat) : (c.faded n).mode = .test ↔ c.mode = .test := by
  unfold ModeControl.faded
  split
  next h => simp [h]
  · split
    next h => split <;> simp [h]
    next => rfl

theorem State.beforeEngine_test (s : State) (order : List EvalWork) :
    (s.beforeEngine order).control.mode = .test ↔ s.control.mode = .test := by
  rw [State.beforeEngine_control]
  split
  · exact s.control.faded_test _
  · rfl

/-- A report as a member of the group (R71). -/
def Report.member (r : Report) : Member :=
  { torque := r.contents.torque, weight := r.shape.weight, trim := r.contents.trim }

/-- The peers of the group are those that meet R73. -/
theorem State.peerMembers_eq (s : State) : s.peerMembers = s.groupPeers.map Report.member := by
  unfold State.peerMembers State.groupPeers State.qualifiedReports
  split
  next => rfl
  next =>
    rw [List.filter_filterMap, List.map_filterMap]
    refine List.filterMap_congr fun k hk => ?_
    have hrange : 1 ≤ k ∧ k < 41 := by simpa [stations] using hk
    have hkey : s.isKey k = decide (k ≠ s.own) := by
      rw [Bool.eq_iff_iff, State.isKey_iff, decide_eq_true_eq]
      exact ⟨fun ⟨_, _, h⟩ => h, fun h => ⟨hrange.1, by omega, h⟩⟩
    rw [hkey]
    unfold PeerEntry.member?
    by_cases hown : k = s.own
    · simp [hown]
    · cases hstate : (s.peer k).state <;> cases hstored : (s.peer k).stored
      case qualified.some r =>
        simp [hown, Report.member, Option.filter_some, apply_ite, and_assoc]
      all_goals simp [hown]

/-- The reasons that keep the node out of its own group, at an evaluation (R74). -/
def State.reasonOf (s : State) : Option ShareReason :=
  if s.tracker.state ≠ .locked then some .speed else if s.drive.count = 0 then some .torque
  else if s.image.group = 0 then some .noGroup else if s.control.mode = .test then some .inTest else none

theorem State.beforeEngine_stale (s : State) (order : List EvalWork) :
    (s.beforeEngine order).drive.stale = true ↔ s.drive.count = 0 := by
  obtain ⟨-, -, hmean, hempty⟩ := s.drive.closed_spec
  have hrun : (s.beforeEngine order).drive.staleRun = s.drive.closed.staleRun := by simp
  unfold DriveLink.stale
  rw [hrun, decide_eq_true_eq]
  by_cases h : s.drive.count = 0
  · rw [(hempty h).2]
    omega
  · rw [(hmean (by omega)).2]
    omega

theorem State.beforeEngine_reason (s : State) (order : List EvalWork) :
    (s.beforeEngine order).ownReason = s.reasonOf := by
  obtain ⟨-, htracker, -⟩ := s.beforeEngine_frame order
  unfold State.ownReason State.reasonOf
  simp only [htracker, Tracker.valid, decide_eq_false_iff_not, s.beforeEngine_stale, s.beforeEngine_image,
    s.beforeEngine_test]

theorem State.beforeEngine_groupPeers (s : State) (order : List EvalWork) :
    (s.beforeEngine order).groupPeers = s.groupPeers := by
  unfold State.groupPeers State.qualifiedReports State.own State.peer
  simp [State.beforeEngine_image]

theorem State.beforeEngine_peerMembers (s : State) (order : List EvalWork) :
    (s.beforeEngine order).peerMembers = s.groupPeers.map Report.member := by
  rw [State.peerMembers_eq, State.beforeEngine_groupPeers]

/-! ### Its share result -/

/-- The deadband taken off, by the error's sign (R77). -/
theorem deadbanded_eq (b : Nat) (e : Int) :
    deadbanded b e = if e.natAbs ≤ b then 0 else if 0 < e then e - b else e + b := by
  unfold deadbanded
  split
  next => rfl
  next h =>
    split
    next hpos => rw [Int.sign_eq_one_of_pos hpos, Int.one_mul]
    next hneg =>
      rw [Int.sign_eq_neg_one_of_neg (by omega)]
      omega

/-- The assessed share result at an evaluation, over the peers of the group and with this integrator (R75 to R80). -/
def State.shareOf (s : State) (own : Int) : ShareResult :=
  let peers := s.groupPeers
  let torque := s.drive.sum.tdiv s.drive.count
  let members := peers.length + 1
  let tg := torque + (peers.map fun r => r.contents.torque).sum
  let wg := s.image.weight + (peers.map fun r => r.shape.weight).sum
  let nearest := (tg * s.image.weight).sign * ((2 * (tg * s.image.weight).natAbs + wg) / (2 * wg) : Nat)
  let target := max (-30000) (min 30000 nearest)
  let e := torque - target
  let b := s.handler.tuning.deadband
  let e' := if e.natAbs ≤ b then 0 else if 0 < e then e - b else e + b
  let r := (-(e' * s.handler.tuning.shareGain)).tdiv 256
  let m := (own + (peers.map fun r => r.contents.trim).sum).tdiv members
  let c := (-m).tdiv 8
  let rate : Int := s.handler.tuning.rateLimit
  { evaluation := s.control.evaluations, outcome := .assessed tg wg target e r c, members := members,
    step := max (-rate) (min rate (r + c)) }

/-- With no reason against it and a peer in the group the engine assesses (R74 to R80). -/
theorem State.beforeEngine_assessed (hc : 1 ≤ s.drive.count) (hreason : s.reasonOf = none) (hp : s.groupPeers ≠ [])
    (order : List EvalWork) :
    (s.beforeEngine order).shareResult = s.shareOf (s.beforeEngine order).balance.integrator := by
  obtain ⟨-, -, hhandler, -, hevals, hheld, -⟩ := s.beforeEngine_frame order
  obtain ⟨-, -, hmean, -⟩ := s.drive.closed_spec
  obtain ⟨hheld', -⟩ := hmean hc
  have hgroup : (s.beforeEngine order).group
      = (s.beforeEngine order).ownMember :: s.groupPeers.map Report.member := by
    rw [State.group, s.beforeEngine_reason, if_pos hreason, s.beforeEngine_peerMembers, List.singleton_append]
  have hlength : ¬ ((s.beforeEngine order).ownMember :: s.groupPeers.map Report.member).length < 2 := by
    have := List.length_pos_iff.mpr hp
    simp
    omega
  have hshare : (s.beforeEngine order).shareResult
      = (s.beforeEngine order).assess ((s.beforeEngine order).ownMember :: s.groupPeers.map Report.member) := by
    unfold State.shareResult
    rw [s.beforeEngine_reason, hreason, hgroup]
    exact if_neg hlength
  have hown : (s.beforeEngine order).ownMember
      = { torque := s.drive.sum.tdiv s.drive.count, weight := s.image.weight,
          trim := (s.beforeEngine order).balance.integrator } := by
    rw [State.ownMember, hheld, hheld', s.beforeEngine_image]
  rw [hshare, hown]
  unfold State.assess State.shareOf
  simp only [hheld, hheld', hhandler, hevals, s.beforeEngine_image, totalTorque, totalWeight, shareTarget, centering,
    shareIncrement, deadbanded_eq, List.map_cons, List.map_map, List.sum_cons, List.length_cons, List.length_map]
  rfl

/-- With a reason the engine does not assess (R74). -/
theorem State.beforeEngine_unassessed {reason : ShareReason} (hreason : s.reasonOf = some reason)
    (order : List EvalWork) :
    (s.beforeEngine order).shareResult
      = { evaluation := s.control.evaluations, outcome := .unassessed reason, members := s.groupPeers.length,
          step := 0 } := by
  obtain ⟨-, -, -, -, hevals, -⟩ := s.beforeEngine_frame order
  have hgroup : (s.beforeEngine order).group = s.groupPeers.map Report.member := by
    rw [State.group, s.beforeEngine_reason, if_neg (by simp [hreason]), s.beforeEngine_peerMembers, List.nil_append]
  unfold State.shareResult State.decline
  rw [s.beforeEngine_reason, hreason, hgroup, hevals]
  simp

/-- With no peer in the group the engine does not assess either (R74). -/
theorem State.beforeEngine_short (hreason : s.reasonOf = none) (hp : s.groupPeers = []) (order : List EvalWork) :
    (s.beforeEngine order).shareResult
      = { evaluation := s.control.evaluations, outcome := .unassessed .short, members := 1, step := 0 } := by
  obtain ⟨-, -, -, -, hevals, -⟩ := s.beforeEngine_frame order
  have hgroup : (s.beforeEngine order).group = [(s.beforeEngine order).ownMember] := by
    rw [State.group, s.beforeEngine_reason, if_pos hreason, s.beforeEngine_peerMembers, hp, List.map_nil,
      List.append_nil]
  unfold State.shareResult State.decline
  rw [s.beforeEngine_reason, hreason, hgroup, hevals]
  simp

/-! ### What it leaves -/

/-- The balance engine after its work in this mode, with this share result (R81, R84 to R86). -/
def Balance.next (b : Balance) (m : Mode) (r : ShareResult) (u : Tuning) : Balance :=
  let i := nextIntegrator m r u.trimLimit b.integrator
  { integrator := i, saturationRun := nextSaturation m r u.trimLimit i b.saturationRun
    shareRun := nextShareRun m r u.shareTolerance b.shareRun, groupShort := nextGroupShort m r b.groupShort
    result := some r }

theorem State.balanced_eq (s : State) :
    s.balanced = s.balance.next s.control.mode s.shareResult s.handler.tuning := rfl

/-- The mode that the engine finds at an evaluation (R95). -/
def State.engineMode (s : State) (order : List EvalWork) : Mode :=
  if StepFirst order then (s.control.faded s.image.fadeLength).mode else s.control.mode

theorem State.beforeEngine_mode (s : State) (order : List EvalWork) :
    (s.beforeEngine order).control.mode = s.engineMode order := by
  rw [State.beforeEngine_control, State.engineMode]
  split <;> rfl

theorem Balance.faded_going {c : ModeControl} (h : ¬ c.Ending) (b : Balance) : b.faded c = b := if_neg h

theorem Balance.faded_ending {c : ModeControl} (h : c.Ending) (b : Balance) :
    b.faded c = { b with integrator := 0, saturationRun := 0, shareRun := 0, groupShort := false } := if_pos h

/-- Where the evaluation ends no fade-out, the engine's work stands at its end. -/
theorem State.engine_going (h : ¬ s.control.Ending) (hon : s.control.mode.lineOn = true) (order : List EvalWork) :
    (s.beforeEngine order).balance = s.balance ∧ (s.afterEngine order).balance = (s.beforeEngine order).balanced := by
  rw [State.beforeEngine_balance, State.afterEngine_balance hon, Balance.faded_going h, Balance.faded_going h]
  exact ⟨ite_self _, ite_self _⟩

/-- Where it ends a fade-out, all is cleared but the result (R104). -/
theorem State.engine_ending (h : s.control.Ending) (order : List EvalWork) :
    (s.afterEngine order).balance
      = { integrator := 0, saturationRun := 0, shareRun := 0, groupShort := false,
          result := some (s.beforeEngine order).shareResult } := by
  rw [State.afterEngine_balance (by rw [h.1]; rfl), State.balanced_eq, State.beforeEngine_mode,
    State.beforeEngine_balance, Balance.faded_ending h, Balance.faded_ending h]
  unfold State.engineMode
  split
  · rw [ModeControl.faded_fadeOut h.1, if_pos h.2]
    rfl
  · rfl

/-- The mode that the engine finds is TRIM as the evaluation begins in TRIM, but where a fade-out has just ended. -/
theorem State.engineMode_isTrim (s : State) (order : List EvalWork) :
    (s.engineMode order).isTrim = true
      ↔ s.control.mode.isTrim = true ∧ ¬ (s.control.Ending ∧ StepFirst order) := by
  unfold State.engineMode
  by_cases hf : StepFirst order
  · by_cases hin : s.control.mode = .trim .fadeIn
    · simp [hf, ModeControl.faded_fadeIn hin, hin, Mode.isTrim]
    · by_cases hout : s.control.mode = .trim .fadeOut
      · by_cases ha : s.control.authority ≤ 1 <;> simp [hf, ModeControl.faded_fadeOut hout, hout, ha, Mode.isTrim]
      · simp [hf, ModeControl.faded_other hin hout, hout]
  · simp [hf]

/-- It is FADE_OUT as the evaluation begins in FADE_OUT, but where that has just ended. -/
theorem State.engineMode_fadeOut (h : ¬ s.control.Ending) (order : List EvalWork) :
    s.engineMode order = .trim .fadeOut ↔ s.control.mode = .trim .fadeOut := by
  unfold State.engineMode
  by_cases hf : StepFirst order
  · by_cases hin : s.control.mode = .trim .fadeIn
    · by_cases hF : s.control.authority + 1 = s.image.fadeLength <;>
        simp [hf, ModeControl.faded_fadeIn hin, hin, hF]
    · by_cases hout : s.control.mode = .trim .fadeOut
      · have ha : ¬ s.control.authority ≤ 1 := fun ha => h ⟨hout, ha⟩
        simp [hf, ModeControl.faded_fadeOut hout, hout, ha]
      · simp [hf, ModeControl.faded_other hin hout]
  · simp [hf]

/-- It is FULL where the evaluation begins in FULL, or in FADE_IN with the step to FULL first (R103). -/
theorem State.engineMode_full (s : State) (order : List EvalWork) :
    s.engineMode order = .trim .full ↔ s.control.mode = .trim .full
      ∨ (s.control.mode = .trim .fadeIn ∧ s.control.authority + 1 = s.image.fadeLength ∧ StepFirst order) := by
  unfold State.engineMode
  by_cases hf : StepFirst order
  · by_cases hin : s.control.mode = .trim .fadeIn
    · by_cases hF : s.control.authority + 1 = s.image.fadeLength <;>
        simp [hf, ModeControl.faded_fadeIn hin, hin, hF]
    · by_cases hout : s.control.mode = .trim .fadeOut
      · by_cases ha : s.control.authority ≤ 1 <;> simp [hf, ModeControl.faded_fadeOut hout, hout, ha]
      · simp [hf, ModeControl.faded_other hin hout, hin]
  · simp [hf]

/-! ### Its notices -/

/-- The kind at this place is sent once under this condition, and then only (R163): it is set and counted, unless
detect-masked. -/
structure FaultUnit.Told (i : Fin 16) (c : Prop) (g f : FaultUnit) : Prop where
  sent : c → f.detectMask.getLsbD i = false →
    g.status.getLsbD i = true ∧ g.counts[i] = min 255 (f.counts[i] + 1)
  unsent : ¬ (c ∧ f.detectMask.getLsbD i = false) → g.counts[i] = f.counts[i]

/-- A notice sent under a condition, among others of other kinds. -/
theorem State.told_takeNotices {i : Fin 16} {c : Prop} [Decidable c] (s : State) {a b : List Notice} {n : Notice}
    (ha : ∀ m ∈ a, m.kind.number - 1 ≠ i) (hb : ∀ m ∈ b, m.kind.number - 1 ≠ i) (hn : n.kind.number - 1 = i) :
    (s.takeNotices (a ++ (if c then [n] else []) ++ b)).fault.Told i c s.fault := by
  have hmask : s.fault.detectMask.getLsbD i = holds s.fault.detectMask n.kind := by rw [holds, hn]
  refine ⟨fun hc hlive => ?_, fun hsilent => ?_⟩
  · rw [if_pos hc, List.append_assoc]
    exact s.takeNotices_counts ha hb hn (hmask ▸ hlive)
  · refine (s.spares_takeNotices fun m hm hk => ?_).count
    rw [List.mem_append, List.mem_append] at hm
    rcases hm with (hm | hm) | hm
    · exact absurd hk (ha m hm)
    · split at hm
      next hc =>
        obtain rfl := List.mem_singleton.mp hm
        have hset : s.fault.detectMask.getLsbD i ≠ false := fun hlive => hsilent ⟨hc, hlive⟩
        rw [hmask] at hset
        exact Bool.eq_true_of_not_eq_false hset
      next => cases hm
    · exact absurd hk (hb m hm)

/-- A set of at most one notice of this kind has none at another place. -/
theorem notice_place {c : Prop} [Decidable c] {k : Kind} {i : Fin 16} (hk : k.number - 1 ≠ i) :
    ∀ m ∈ (if c then [notice k 0] else []), m.kind.number - 1 ≠ i := by
  intro m hm
  rw [eq_notice_of_mem hm]
  exact hk

/-- GROUP_SHORT is due at the engine's work (R84). -/
abbrev State.ShortDue (s : State) : Prop :=
  s.control.mode.isTrim = true ∧ s.shareResult.assessed = false ∧ s.balance.groupShort = false

/-- TRIM_SATURATED is due at the engine's work (R85). -/
abbrev State.SaturationDue (s : State) : Prop := s.balanced.saturationRun = 16 ∧ s.balance.saturationRun ≠ 16

/-- SHARE_TOL is due at the engine's work (R86). -/
abbrev State.ToleranceDue (s : State) : Prop := s.balanced.shareRun = 8 ∧ s.balance.shareRun ≠ 8

/-- The engine's three kinds, each under its own condition. -/
theorem State.told_balanceWork (hon : s.control.mode.lineOn = true) :
    s.balanceWork.fault.Told 7 s.ShortDue s.fault ∧ s.balanceWork.fault.Told 8 s.SaturationDue s.fault
      ∧ s.balanceWork.fault.Told 9 s.ToleranceDue s.fault := by
  have hfault : s.engaged.fault = s.fault := by simp
  rw [State.balanceWork_on hon, ← hfault]
  refine ⟨?_, ?_, ?_⟩
  · have h := s.engaged.told_takeNotices (i := 7) (c := s.ShortDue) (a := []) (n := notice .groupShort 0)
      (fun _ hm => by cases hm)
      (List.forall_mem_append.mpr ⟨notice_place (c := s.SaturationDue) (k := .trimSaturated) (by decide),
        notice_place (c := s.ToleranceDue) (k := .shareTol) (by decide)⟩) rfl
    rwa [List.nil_append, ← List.append_assoc] at h
  · exact s.engaged.told_takeNotices (notice_place (by decide)) (notice_place (by decide)) rfl
  · have h := s.engaged.told_takeNotices (i := 9) (c := s.ToleranceDue) (b := []) (n := notice .shareTol 0)
      (List.forall_mem_append.mpr ⟨notice_place (c := s.ShortDue) (k := .groupShort) (by decide),
        notice_place (c := s.SaturationDue) (k := .trimSaturated) (by decide)⟩)
      (fun _ hm => by cases hm) rfl
    rwa [List.append_nil] at h

end Engine

end Sys2Proof.Machine
end

section
/-! SUPPORT. An evaluation's share result, integrator, runs, flag and notices together (R71 to R91, R104). -/

namespace Sys2Proof.Machine

section Shares

variable {s t : State} {order : List EvalWork}

/-! ### The notices of an evaluation -/

theorem FaultUnit.Told.congr {i : Fin 16} {c c' : Prop} {f g f' g' : FaultUnit} (h : g.Told i c f) (hc : c ↔ c')
    (hf : f.Spares i f') (hg : g'.Spares i g) (hm : f.detectMask = f'.detectMask) : g'.Told i c' f' := by
  refine ⟨fun hc' hlive => ?_, fun hsilent => ?_⟩
  · rw [hg.status, hg.count, ← hf.count]
    exact h.sent (hc.mpr hc') (hm ▸ hlive)
  · rw [hg.count, h.unsent fun ⟨h', hlive⟩ => hsilent ⟨hc.mp h', hm ▸ hlive⟩, hf.count]

/-- With no TRIP-class notice due and no test ending, the engine's work and the fade step make the balance engine at an
evaluation's end, and of its kinds those are sent that are due at its work. -/
theorem State.evaluated_engine (hcalm : s.Calm) (hon : s.control.mode.lineOn = true) (hx : s.Unending)
    (order : List EvalWork) :
    ∃ t, exec (.evaluation { order := order }) s = .next t
      ∧ t.balance = (s.countEvaluation.afterEngine order).balance
      ∧ t.fault.Told 7 (s.countEvaluation.beforeEngine order).ShortDue s.fault
      ∧ t.fault.Told 8 (s.countEvaluation.beforeEngine order).SaturationDue s.fault
      ∧ t.fault.Told 9 (s.countEvaluation.beforeEngine order).ToleranceDue s.fault := by
  obtain ⟨u, hu, hparts, hspares⟩ :=
    State.runWorks_warn (s := s.countEvaluation) order hcalm.1 hcalm.not_lapsing hx
  obtain ⟨-, hbalance, hfault⟩ := s.evaluated_formReference order
  have hmode : u.control.mode.lineOn = true := by
    rw [hu.control, State.beforeEngine_control]
    split
    · rw [ModeControl.faded_lineOn]
      exact hon
    · exact hon
  have hmask : u.fault.detectMask = s.fault.detectMask := by
    rw [hu.detectMask]
    unfold State.beforeEngine
    split <;> simp [State.closeAccumulator_eq, State.countEvaluation]
  obtain ⟨h7, h8, h9⟩ := State.told_balanceWork hmode
  obtain ⟨hf7, hg7⟩ := hspares 7 (by decide)
  obtain ⟨hf8, hg8⟩ := hspares 8 (by decide)
  obtain ⟨hf9, hg9⟩ := hspares 9 (by decide)
  have hstart : s.control.mode ≠ .start := fun e => by simp [e, Mode.lineOn] at hon
  refine ⟨_, exec_evaluation hstart order, hbalance.trans hparts.balance, ?_, ?_, ?_⟩
  · rw [hfault]
    exact h7.congr (by rw [State.ShortDue, hu.control, hu.shareResult, hu.balance]) hf7 hg7 hmask
  · rw [hfault]
    exact h8.congr (by rw [State.SaturationDue, hu.balanced, hu.balance]) hf8 hg8 hmask
  · rw [hfault]
    exact h9.congr (by rw [State.ToleranceDue, hu.balanced, hu.balance]) hf9 hg9 hmask

/-! ### The due notices by the evaluation's end -/

/-- Where the evaluation ends a fade-out the engine's work is in FADE_OUT or in REPORT. -/
theorem State.engineMode_ending (h : s.control.Ending) (order : List EvalWork) :
    s.engineMode order = .report ∨ s.engineMode order = .trim .fadeOut := by
  unfold State.engineMode
  split
  · rw [ModeControl.faded_fadeOut h.1, if_pos h.2]
    exact .inl rfl
  · exact .inr h.1

theorem State.saturationDue_iff (hon : s.control.mode.lineOn = true) (order : List EvalWork) :
    (s.beforeEngine order).SaturationDue
      ↔ (s.afterEngine order).balance.saturationRun = 16 ∧ s.balance.saturationRun ≠ 16 := by
  by_cases h : s.control.Ending
  · rw [State.engine_ending h]
    refine iff_of_false (fun ⟨hnow, hbefore⟩ => hbefore ?_) (by simp)
    rw [State.balanced_eq, State.beforeEngine_mode] at hnow
    rcases State.engineMode_ending h order with hm | hm <;> rwa [hm] at hnow
  · obtain ⟨hfound, hleft⟩ := State.engine_going h hon order
    rw [State.SaturationDue, hfound, hleft]

theorem State.toleranceDue_iff (hon : s.control.mode.lineOn = true) (order : List EvalWork) :
    (s.beforeEngine order).ToleranceDue
      ↔ (s.afterEngine order).balance.shareRun = 8 ∧ s.balance.shareRun ≠ 8 := by
  by_cases h : s.control.Ending
  · rw [State.engine_ending h]
    refine iff_of_false (fun ⟨hnow, _⟩ => ?_) (by simp)
    rw [State.balanced_eq, State.beforeEngine_mode] at hnow
    rcases State.engineMode_ending h order with hm | hm <;> simp [hm, Balance.next, nextShareRun] at hnow
  · obtain ⟨hfound, hleft⟩ := State.engine_going h hon order
    rw [State.ToleranceDue, hfound, hleft]

/-- The balance engine as its work finds it: cleared where a fade-out has just ended. -/
theorem State.beforeEngine_balance_ite (s : State) (order : List EvalWork) :
    (s.beforeEngine order).balance
      = if s.control.Ending ∧ StepFirst order then
          { s.balance with integrator := 0, saturationRun := 0, shareRun := 0, groupShort := false }
        else s.balance := by
  rw [State.beforeEngine_balance]
  by_cases hf : StepFirst order
  · rw [if_pos hf]
    by_cases h : s.control.Ending
    · rw [Balance.faded_ending h, if_pos ⟨h, hf⟩]
    · rw [Balance.faded_going h, if_neg fun h' => h h'.1]
  · rw [if_neg hf, if_neg fun h' => hf h'.2]

/-- The centering takes u as 0 where a fade-out has just ended. -/
theorem State.beforeEngine_integrator (s : State) (order : List EvalWork) :
    (s.beforeEngine order).balance.integrator
      = if s.control.Ending ∧ StepFirst order then 0 else s.balance.integrator := by
  rw [State.beforeEngine_balance_ite]
  split <;> rfl

/-! ### Integrator, runs and flag of an evaluation -/

/-- Integrator, runs and flag with an assessed result (R81, R84 to R86). -/
theorem Balance.next_assessed {r : ShareResult} (hr : r.assessed = true) (b : Balance) (m : Mode) (u : Tuning) :
    (b.next m r u).integrator
        = (if m.isTrim = false then 0 else if m = .trim .fadeOut then b.integrator
            else max (-(u.trimLimit : Int)) (min u.trimLimit (b.integrator + r.step)))
      ∧ (b.next m r u).saturationRun
        = (if m.isTrim = false ∨ m = .trim .fadeOut then b.saturationRun
            else if 1 ≤ u.trimLimit ∧ (b.next m r u).integrator.natAbs = u.trimLimit then min 255 (b.saturationRun + 1)
            else 0)
      ∧ (b.next m r u).shareRun
        = (if m = .trim .full ∧ u.shareTolerance < r.error.natAbs then min 255 (b.shareRun + 1) else 0)
      ∧ (b.next m r u).groupShort = (if m.isTrim then false else b.groupShort) := by
  have hshare : (b.next m r u).shareRun
      = if m = .trim .full ∧ u.shareTolerance < r.error.natAbs then min 255 (b.shareRun + 1) else 0 := by
    simp [Balance.next, nextShareRun, hr, satInc, Config.runMax]
  refine ⟨?_, ?_, hshare, ?_⟩
  · cases m with
    | trim p => cases p <;> simp [Balance.next, nextIntegrator, Mode.isTrim, hr, clampInt]
    | _ => rfl
  · cases m with
    | trim p => cases p <;> simp [Balance.next, nextSaturation, Mode.isTrim, hr, satInc, Config.runMax]
    | _ => rfl
  · simp [Balance.next, nextGroupShort, hr]

/-- With an unassessed result integrator and saturation run are held (R81, R84 to R86). -/
theorem Balance.next_unassessed {r : ShareResult} (hr : r.assessed = false) (b : Balance) (m : Mode) (u : Tuning) :
    (b.next m r u).integrator = (if m.isTrim = true then b.integrator else 0)
      ∧ (b.next m r u).saturationRun = b.saturationRun ∧ (b.next m r u).shareRun = 0
      ∧ (b.next m r u).groupShort = (if m.isTrim then true else b.groupShort) := by
  refine ⟨?_, ?_, by simp [Balance.next, nextShareRun, hr], by simp [Balance.next, nextGroupShort, hr]⟩
  · cases m with
    | trim p => cases p <;> simp [Balance.next, nextIntegrator, Mode.isTrim, hr]
    | _ => rfl
  · cases m with
    | trim p => cases p <;> simp [Balance.next, nextSaturation, hr]
    | _ => rfl

/-- Where the evaluation goes on in its mode, the engine's mode stands in it for TRIM and FADE_OUT. -/
theorem State.engineMode_going (h : ¬ s.control.Ending) (order : List EvalWork) :
    (s.engineMode order).isTrim = s.control.mode.isTrim
      ∧ (s.engineMode order = .trim .fadeOut ↔ s.control.mode = .trim .fadeOut) := by
  refine ⟨?_, State.engineMode_fadeOut h order⟩
  rw [Bool.eq_iff_iff, State.engineMode_isTrim]
  exact ⟨fun h' => h'.1, fun h' => ⟨h', fun he => h he.1⟩⟩

/-- An evaluation that goes on leaves the engine's work on what the evaluation began with. -/
theorem State.afterEngine_going (h : ¬ s.control.Ending) (hon : s.control.mode.lineOn = true) (order : List EvalWork) :
    (s.afterEngine order).balance
      = s.balance.next (s.engineMode order) (s.beforeEngine order).shareResult s.handler.tuning := by
  obtain ⟨hfound, hleft⟩ := State.engine_going h hon order
  obtain ⟨-, -, hhandler, -⟩ := s.beforeEngine_frame order
  rw [hleft, State.balanced_eq, hfound, State.beforeEngine_mode, hhandler]

/-- The result stands at the evaluation's end (R89). -/
theorem State.afterEngine_result (hon : s.control.mode.lineOn = true) (order : List EvalWork) :
    (s.afterEngine order).balance.result = some (s.beforeEngine order).shareResult := by
  by_cases h : s.control.Ending
  · rw [State.engine_ending h]
  · rw [State.afterEngine_going h hon]
    rfl

/-! ### The unassessed evaluation -/

/-- The reason of an unassessed evaluation: one of the node's own, or that the group is short (R74). -/
theorem State.beforeEngine_declines {reason : ShareReason}
    (h : s.reasonOf.or (if s.groupPeers = [] then some .short else none) = some reason) (order : List EvalWork) :
    (s.beforeEngine order).shareResult
      = { evaluation := s.control.evaluations, outcome := .unassessed reason,
          members := if reason = .short then 1 else s.groupPeers.length, step := 0 } := by
  cases hr : s.reasonOf with
  | some own =>
    obtain rfl : own = reason := by simpa [hr] using h
    have hshort : own ≠ .short := by
      rintro rfl
      unfold State.reasonOf at hr
      split_ifs at hr <;> cases hr
    rw [State.beforeEngine_unassessed hr, if_neg hshort]
  | none =>
    by_cases hp : s.groupPeers = []
    · obtain rfl : ShareReason.short = reason := by simpa [hr, hp] using h
      rw [State.beforeEngine_short hr hp, if_pos rfl]
    · simp [hr, hp] at h

theorem State.afterEngine_unassessed (hon : s.control.mode.lineOn = true)
    (hr : (s.beforeEngine order).shareResult.assessed = false) :
    (s.afterEngine order).balance.integrator
        = (if s.control.mode.isTrim = true ∧ ¬ s.control.Ending then s.balance.integrator else 0)
      ∧ (s.afterEngine order).balance.saturationRun = (if s.control.Ending then 0 else s.balance.saturationRun)
      ∧ (s.afterEngine order).balance.shareRun = 0
      ∧ (s.afterEngine order).balance.groupShort
        = (if s.control.Ending then false else if s.control.mode.isTrim then true else s.balance.groupShort) := by
  by_cases h : s.control.Ending
  · rw [State.engine_ending h, if_neg fun h' => h'.2 h, if_pos h, if_pos h]
    exact ⟨rfl, rfl, rfl, rfl⟩
  · obtain ⟨hu, hsat, hrun, hflag⟩ :=
      s.balance.next_unassessed hr (s.engineMode order) s.handler.tuning
    obtain ⟨hmode, -⟩ := State.engineMode_going h order
    rw [State.afterEngine_going h hon, hu, hsat, hrun, hflag, hmode, if_neg h, if_neg h]
    refine ⟨?_, rfl, rfl, rfl⟩
    simp only [h, not_false_eq_true, and_true]

theorem State.shortDue_iff (hr : (s.beforeEngine order).shareResult.assessed = false) :
    (s.beforeEngine order).ShortDue ↔ s.control.mode.isTrim = true ∧ s.balance.groupShort = false
      ∧ ¬ (s.control.Ending ∧ StepFirst order) := by
  have hflag : (s.beforeEngine order).balance.groupShort
      = if s.control.Ending ∧ StepFirst order then false else s.balance.groupShort := by
    rw [State.beforeEngine_balance_ite]
    split <;> rfl
  rw [State.ShortDue, State.beforeEngine_mode, State.engineMode_isTrim, hflag]
  constructor
  · rintro ⟨⟨hm, he⟩, -, hs⟩
    exact ⟨hm, by rwa [if_neg he] at hs, he⟩
  · rintro ⟨hm, hs, he⟩
    exact ⟨⟨hm, he⟩, hr, by rwa [if_neg he]⟩

end Shares

/-- Settles O23: the reason by what the engine finds, the rest by whether the evaluation ends a fade-out. -/
theorem shareIsUnassessed : Obligations.ShareIsUnassessed := by
  intro order s reason hcalm hon htest hreason ending stepFirst
  have hx : s.Unending := fun hm p hp hend => by
    obtain ⟨q, hq, hpos⟩ := htest hm
    obtain rfl := Option.some.inj (hp.symm.trans hq)
    exact hpos hend
  obtain ⟨t, ht, hbalance, h7, -, -⟩ := State.evaluated_engine hcalm hon hx order
  have hon' : s.countEvaluation.control.mode.lineOn = true := hon
  have hresult := State.beforeEngine_declines (s := s.countEvaluation) (reason := reason) (by
    rw [← hreason]
    show s.reasonOf.or (if s.groupPeers = [] then some .short else none) = _
    unfold State.reasonOf
    split_ifs <;> rfl) order
  have hassess : (s.countEvaluation.beforeEngine order).shareResult.assessed = false := by rw [hresult]; rfl
  obtain ⟨hu, hsat, hrun, hflag⟩ := State.afterEngine_unassessed hon' hassess
  have hdue := State.shortDue_iff hassess
  rw [← hbalance] at hu hsat hrun hflag
  refine ⟨t, ht, ?_, hu, hsat, hrun, hflag, ?_⟩
  · rw [hbalance, State.afterEngine_result hon', hresult]
    rfl
  · split
    next h =>
      obtain ⟨hm, hs, he, hlive⟩ := h
      exact h7.sent (hdue.mpr ⟨hm, hs, he⟩) hlive
    next h =>
      refine h7.unsent fun ⟨hd, hlive⟩ => h ?_
      obtain ⟨hm, hs, he⟩ := hdue.mp hd
      exact ⟨hm, hs, he, hlive⟩

end Sys2Proof.Machine
end

section
/-! SUPPORT. The assessed evaluation (R75 to R81, R84 to R87, R104). -/

namespace Sys2Proof.Machine

section Assessed

variable {s : State} {order : List EvalWork}

/-- The integrator at the end of an evaluation assessed with this step (R81, R104). -/
def State.assessedIntegrator (s : State) (step : Int) : Int :=
  if s.control.mode.isTrim = false ∨ s.control.Ending then 0
  else if s.control.mode = .trim .fadeOut then s.balance.integrator
  else max (-(s.handler.tuning.trimLimit : Int)) (min s.handler.tuning.trimLimit (s.balance.integrator + step))

/-- Integrator, flag and runs at the end of an assessed evaluation, the engine's mode told by the mode at its beginning
(R81, R84 to R86, R103, R104). -/
theorem State.afterEngine_assessed (hon : s.control.mode.lineOn = true)
    (hr : (s.beforeEngine order).shareResult.assessed = true) :
    let b := (s.afterEngine order).balance
    let r := (s.beforeEngine order).shareResult
    b.integrator = s.assessedIntegrator r.step
      ∧ b.groupShort = (if s.control.mode.isTrim then false else s.balance.groupShort)
      ∧ b.saturationRun
        = (if s.control.Ending then 0
            else if s.control.mode.isTrim = false ∨ s.control.mode = .trim .fadeOut then s.balance.saturationRun
            else if 1 ≤ s.handler.tuning.trimLimit ∧ b.integrator.natAbs = s.handler.tuning.trimLimit then
              min 255 (s.balance.saturationRun + 1)
            else 0)
      ∧ b.shareRun
        = (if (s.control.mode = .trim .full
              ∨ (s.control.mode = .trim .fadeIn ∧ s.control.authority + 1 = s.image.fadeLength ∧ StepFirst order))
              ∧ s.handler.tuning.shareTolerance < r.error.natAbs then min 255 (s.balance.shareRun + 1) else 0) := by
  dsimp only
  unfold State.assessedIntegrator
  by_cases h : s.control.Ending
  · have ⟨hm, _⟩ := h
    rw [State.engine_ending h, if_pos (.inr h), if_pos h]
    exact ⟨rfl, by rw [hm]; rfl, rfl, by simp [hm]⟩
  · obtain ⟨hu, hsat, hrun, hflag⟩ := s.balance.next_assessed hr (s.engineMode order) s.handler.tuning
    obtain ⟨hmode, hout⟩ := State.engineMode_going h order
    rw [← State.afterEngine_going h hon] at hu hsat hrun hflag
    simp only [hmode, hout, State.engineMode_full] at hu hsat hrun hflag
    simp only [h, or_false, if_false]
    exact ⟨hu, hflag, hsat, hrun⟩

end Assessed

/-- Settles O22: the share result by what the engine finds, the rest by whether the evaluation ends a fade-out. -/
theorem shareIsAssessed : Obligations.ShareIsAssessed := by
  intro order s hcalm hon htest hlocked hcount hgroup hpeers peers torque members tg wg nearest target e b e' r fading
    ending stepFirst own m c rate limit step u saturated outside counted
  have hon' : s.countEvaluation.control.mode.lineOn = true := hon
  obtain ⟨t, ht, hbalance, h7, h8, h9⟩ := State.evaluated_engine hcalm hon (fun hm => absurd hm htest) order
  have hreason : s.reasonOf = none := by
    rw [State.reasonOf, if_neg (not_not.mpr hlocked), if_neg (by omega), if_neg hgroup, if_neg htest]
  have hresult := State.beforeEngine_assessed (s := s.countEvaluation) hcount hreason hpeers order
  rw [State.beforeEngine_integrator] at hresult
  have hresult' : (s.countEvaluation.beforeEngine order).shareResult
      = { evaluation := s.control.evaluations + 1, outcome := .assessed tg wg target e r c, members := members,
          step := step } := hresult
  have hassess : (s.countEvaluation.beforeEngine order).shareResult.assessed = true := by rw [hresult]; rfl
  obtain ⟨hu, hflag, hsat, hrun⟩ := State.afterEngine_assessed hon' hassess
  have hsatdue := State.saturationDue_iff hon' order
  have htoldue := State.toleranceDue_iff hon' order
  rw [← hbalance] at hu hsat hrun hflag hsatdue htoldue
  rw [hresult'] at hu hrun
  have hu' : t.balance.integrator = u := hu
  have hrun' : t.balance.shareRun
      = if s.control.mode = .trim .full
          ∨ (s.control.mode = .trim .fadeIn ∧ s.control.authority + 1 = s.image.fadeLength ∧ stepFirst)
        then counted else 0 := hrun.trans (ite_and ..)
  have hsaturated : saturated ↔ 1 ≤ s.handler.tuning.trimLimit ∧ u.natAbs = s.handler.tuning.trimLimit := by
    show (1 : Int) ≤ (s.handler.tuning.trimLimit : Int) ∧ (u.natAbs : Int) = (s.handler.tuning.trimLimit : Int) ↔ _
    omega
  refine ⟨t, ht, ?_, hu', hflag, ?_, fun hfull => ?_, fun hfull => ?_, ?_, fun hlive => ?_, fun hlive => ?_⟩
  · rw [hbalance, State.afterEngine_result hon', hresult']
  · rw [hsat, hu']
    simp only [hsaturated]
    rfl
  · rw [hrun', if_pos (.inl hfull)]
  · split
    next h => rw [hrun', if_pos (.inr h)]
    next h => rw [hrun', if_neg fun h' => h'.elim hfull h]
  · exact h7.unsent fun ⟨⟨_, hno, _⟩, _⟩ => by simp [hassess] at hno
  · split
    next h => exact h8.sent (hsatdue.mpr h) hlive
    next h => exact h8.unsent fun ⟨hd, _⟩ => h (hsatdue.mp hd)
  · split
    next h => exact h9.sent (htoldue.mpr h) hlive
    next h => exact h9.unsent fun ⟨hd, _⟩ => h (htoldue.mp hd)

end Sys2Proof.Machine
end

section
/-! SUPPORT. SET_MODE and STOP_TEST that are refused or find nothing to change, and the test that STOP_TEST ends (R100,
R101, R141, R175 to R177). -/

namespace Sys2Proof.Machine

section Refusals

variable {s : State} {h : DirectiveHead}

/-! ### SET_MODE without effect (R100, R101) -/

/-- SET_MODE that leaves the node as it is, whatever it answers. -/
theorem exec_setMode_unmoved {target : Byte} {rest : List Byte} (ht : s.Takes h (1 + rest.length)) {o : AnswerOutcome}
    (hd : (s.tookDirective h).doSetMode target.toNat = refuse o (s.tookDirective h)) :
    exec (.setMode h (target :: rest)) s = .next ((s.tookDirective h).answered h o [] false) :=
  exec_taken (c := .setMode h (target :: rest)) rfl (takes_of_eq ht (Nat.add_comm 1 rest.length)) hd ht.1.1

/-- A code that names none of the three targets (R100). -/
theorem State.doSetMode_unknown (s : State) {target : Nat} (hn : target = 0 ∨ 3 < target) :
    s.doSetMode target = refuse .badValue s := by
  rcases hn with rfl | hn
  · rfl
  · obtain ⟨n, rfl⟩ : ∃ n, target = n + 4 := ⟨target - 4, by omega⟩
    rfl

theorem State.towardListen_authority (ha : s.control.mode.hasAuthority = true) :
    s.towardListen = refuse .wrongMode s := by
  unfold State.towardListen
  cases hm : s.control.mode with
  | trim | test => rfl
  | start | hold | listen | report => simp [hm, Mode.hasAuthority] at ha

/-- The bar of R101, condition by condition. -/
theorem State.trimBar_eq (s : State) :
    s.trimBar =
      if s.tracker.state ≠ .locked then some .wrongMode
      else if s.drive.ready = false ∨ 1 ≤ s.drive.staleRun then some .wrongMode
      else if s.image.group = 0 then some .badValue
      else if s.fault.status &&& s.fault.classMap ≠ 0 then some .faultPending
      else none := by
  simp [State.trimBar, Tracker.valid, DriveLink.stale, FaultUnit.tripPending]

theorem State.towardTrim_barred (hm : s.control.mode = .report) {o : AnswerOutcome} (hb : s.trimBar = some o) :
    s.towardTrim = refuse o s := by
  rw [State.towardTrim, hm, hb]

end Refusals

/-- Settles O40: one row of `doSetMode` each, that leaves the node where it is. -/
theorem setModeWithoutEffect : Obligations.SetModeWithoutEffect := by
  intro s h target rest ht answers
  let t := s.tookDirective h
  have hanswers {o : AnswerOutcome} (hd : t.doSetMode target.toNat = refuse o t) : answers o := exec_setMode_unmoved ht hd
  refine ⟨fun hn => hanswers (t.doSetMode_unknown hn), ?_, ?_, ?_, ?_, ?_, ?_, ?_⟩ <;> rintro rfl hm
  · exact hanswers (State.towardListen_authority (s := t) hm)
  · exact hanswers (show t.towardListen = _ by rw [State.towardListen, show t.control.mode = .listen from hm]; rfl)
  · refine hanswers (show t.towardReport = _ from ?_)
    rcases hm with hm | hm <;> rw [State.towardReport, show t.control.mode = _ from hm] <;> rfl
  · exact hanswers (show t.towardReport = _ by rw [State.towardReport, show t.control.mode = .test from hm])
  · refine hanswers (show t.towardTrim = _ from ?_)
    rcases hm with hm | hm <;> rw [State.towardTrim, show t.control.mode = _ from hm]
  · refine hanswers (show t.towardTrim = _ from ?_)
    rcases hm with hm | hm <;> rw [State.towardTrim, show t.control.mode = _ from hm] <;> rfl
  · have hbarred {o : AnswerOutcome} (hb : s.trimBar = some o) : answers o :=
      hanswers (State.towardTrim_barred (s := t) hm hb)
    have hbar := s.trimBar_eq
    split
    next hl => exact hbarred (by rw [hbar, if_pos hl])
    next hl =>
      split
      next hd => exact hbarred (by rw [hbar, if_neg hl, if_pos hd])
      next hd =>
        split
        next hg => exact hbarred (by rw [hbar, if_neg hl, if_neg hd, if_pos hg])
        next hg => exact fun hf => hbarred (by rw [hbar, if_neg hl, if_neg hd, if_neg hg, if_pos hf])

/-! ### STOP_TEST (R141) -/

/-- STOP_TEST where no test runs. -/
theorem State.doStopTest_refused {s : State} (hm : s.control.mode ≠ .test) : s.doStopTest = refuse .wrongMode s :=
  if_neg hm

/-- STOP_TEST where one runs. -/
theorem State.doStopTest_done {s : State} (hm : s.control.mode = .test) :
    s.doStopTest = done ((s.endTest .aborted).changeMode .report) :=
  if_pos hm

/-- Settles O45: the answered forms by the reply, the broadcast by a transmitter that stands already. -/
theorem stopTestAborts : Obligations.StopTestAborts := by
  intro s h rest stopped t
  refine ⟨fun ht hm => ?_, fun ht hm => ?_, fun ho hl hterm h0 hown hn => ?_⟩
  · have hd : t.reply 4 rest = done ((t.endTest .aborted).changeMode .report) := State.doStopTest_done (s := t) hm
    rw [exec_taken (c := .stopTest h rest) rfl ht hd (by simp [done, Mode.lineOn])]
    exact congrArg _ (State.changeMode_answered ..)
  · exact exec_taken (c := .stopTest h rest) (r := refuse .wrongMode t) rfl ht (State.doStopTest_refused (s := t) hm) ht.1.1
  · have hcast : exec (.stopTest h rest) s = .next t.doStopTest.node :=
      congrArg _ (State.receiveDirective_broadcast 4 ho hterm h0 hown hn)
    rw [hcast]
    split
    next hm =>
      rw [State.doStopTest_done (s := t) hm]
      exact congrArg _ (State.changeMode_report_settled (s := t.endTest .aborted) (hl.settled ho.1))
    next hm => rw [State.doStopTest_refused (s := t) hm]; rfl

end Sys2Proof.Machine
end

section
/-! SUPPORT. The record that fails its check (R97, R161, R165, R187). -/

namespace Sys2Proof.Machine

/-- A record with a failing sum, or whose station is no node's, is not taken (R187). -/
theorem recordGood_eq_false {record : List Byte}
    (h : recordSum record ≠ 0 ∨ recordWord record 0 = 0 ∨ 40 < recordWord record 0) : recordGood record = false := by
  have hmax : Config.nodeMax = 40 := rfl
  rw [Bool.eq_false_iff]
  intro hgood
  simp only [recordGood, Bool.and_eq_true, decide_eq_true_eq, hmax] at hgood
  omega

/-- CONFIG as the first kind raised, under the default settings (R161, R163, R165). -/
theorem FaultUnit.tripped_config {f : FaultUnit} (hstatus : f.status = 0) (hcounts : f.counts = Vector.replicate 16 0)
    (hfirst : f.firstTrip = .empty) {c : TripContents} (hc : c.kind = .config) :
    (f.load Image.fallback).tripped c =
      { f with
        status := 0x0001
        counts := Vector.ofFn fun n : Fin 16 => if n.val = 0 then 1 else 0
        classMap := 0x000F
        detectMask := 0
        signalMask := 0x8000
        firstTrip := .locked c
        multipleTrip := false
        tripLine := true
        warnLine := false } := by
  have hcounted : (Vector.ofFn fun i : Fin 16 => if i.val + 1 = Kind.config.number
        then min 255 ((Vector.replicate 16 0)[i] + 1) else (Vector.replicate 16 0)[i])
      = Vector.ofFn fun n : Fin 16 => if n.val = 0 then 1 else 0 := by decide
  simp only [FaultUnit.tripped, FaultUnit.load, FaultUnit.driveLines, FaultUnit.raised, hfirst, hc, hstatus, hcounts,
    hcounted]
  rfl

/-- The failed check of a record, in a sound START: CONFIG's record, and HOLD (R97, R187). -/
theorem State.startBad_eq {s : State} (hstart : s.StartOk) (hm : s.control.mode = .start) :
    s.startBad =
      { s with
        startUnit := StartUnit.atReset .over
        control := { s.control with mode := .hold, authority := 0 }
        tracker := Tracker.atReset 0
        fault :=
          (s.fault.load Image.fallback).tripped
            (State.tripContents { s with tracker := Tracker.atReset 0 } (notice .config 0)) } := by
  obtain ⟨-, -, -, -, hreset⟩ := hstart
  obtain ⟨hdrive, hline, -, hbal, -⟩ := hreset hm
  have htrips : (s.fault.load Image.fallback).trips (notice .config 0).kind :=
    (by decide : Config.defaultClassMap.getLsbD 0 = true ∧ Config.defaultDetectMask.getLsbD 0 = false)
  have hlink : { s.drive with posted := false } = s.drive := by rw [hdrive]; rfl
  unfold State.startBad
  rw [State.takeNotice_trip _ _ htrips, show (notice .config 0).kind.fixed = true from rfl]
  simp only [State.tripDrop, hm, State.toHold, State.changeMode_hold, if_true, hlink, hline, hbal]
  rfl

/-- Settles O6: CONFIG taken over blocks at their reset values. -/
theorem badRecordEndsInHold : Obligations.BadRecordEndsInHold := by
  intro s record hstart hm hphase hbad
  have hcheck : exec (.startCheck record) s = .next s.startBad := by
    simp [exec, execStartCheck, hm, hphase, recordGood_eq_false hbad]
  rw [hcheck, State.startBad_eq hstart hm]
  obtain ⟨-, -, -, hreading, hreset⟩ := hstart
  obtain ⟨-, -, hfirst, -⟩ := hreading (.inl hphase)
  obtain ⟨hdrive, -, hcontrol, hbal, -, -, -, -, -, hstatus, hcounts, hwarn, hmulti, -⟩ := hreset hm
  have hheld : s.drive.held = 0 := by rw [hdrive]; rfl
  rw [FaultUnit.tripped_config hstatus hcounts hfirst rfl]
  simp only [State.tripContents, hwarn, hmulti, hcontrol, hbal, hheld]
  rfl

end Sys2Proof.Machine
end

section
/-! SUPPORT. START_TEST: the test begun, the observation that it discards, and the refusals (R94, R109, R130, R131, R136,
R153, R154, R156, R176). -/

namespace Sys2Proof.Machine

section StartTest

variable {s : State} {h : DirectiveHead} {k : Nat} {e : PeerEntry} {o : Slot} {f : FaultUnit}

/-! ### The conditions (R130) -/

/-- The bar of R130, condition by condition. -/
theorem State.testBar_eq (s : State) :
    s.testBar =
      if s.control.mode ≠ .report ∨ s.tracker.state ≠ .locked ∨ 1 ≤ s.drive.staleRun then some .wrongMode
      else if s.excitation.pattern = none then some .badValue
      else if s.fault.status &&& s.fault.classMap ≠ 0 then some .faultPending
      else none := by
  have htrip : s.fault.tripPending = true ↔ s.fault.status &&& s.fault.classMap ≠ 0 := decide_eq_true_iff
  have hvalid : s.tracker.valid = false ↔ s.tracker.state ≠ .locked := decide_eq_false_iff_not
  have hstale : s.drive.stale = true ↔ 1 ≤ s.drive.staleRun := decide_eq_true_iff
  simp only [State.testBar, htrip, hvalid, hstale, ite_or]

/-- R130's five conditions leave no bar. -/
theorem State.testBar_eq_none (hm : s.control.mode = .report) (hl : s.tracker.state = .locked)
    (hst : s.drive.staleRun = 0) (hp : s.excitation.pattern.isSome = true)
    (hf : s.fault.status &&& s.fault.classMap = 0) : s.testBar = none := by
  rw [State.testBar_eq, if_neg (by simp [hm, hl, hst]), if_neg (Option.isSome_iff_ne_none.mp hp),
    if_neg (not_not.mpr hf)]

/-- START_TEST refused by its first failing condition. -/
theorem exec_startTest_barred {rest : List Byte} (ht : s.Takes h rest.length) {a : AnswerOutcome}
    (hb : s.testBar = some a) :
    exec (.startTest h rest) s = .next ((s.tookDirective h).answered h a [] false) := by
  have hd : (s.tookDirective h).doStartTest = refuse a (s.tookDirective h) := by
    rw [State.doStartTest, show (s.tookDirective h).testBar = some a from hb]
  exact exec_taken (c := .startTest h rest) rfl ht hd ht.1.1

/-! ### The test begun (R131) -/

/-- The node in TEST with the test at its begin, before the coupling observer is told. -/
def State.atTestBegin (s : State) : State :=
  { s.inMode .test with
    excitation :=
      { s.excitation with
        baseline := s.tracker.speed, count := 0, limitPosted := false, stepIndex := 0, position := 0, offset := 0,
        sentStep := 0, sentLevel := .zero, running := true }
    drive := { (s.inMode .test).drive with lastWord := 0 } }

/-! ### The observation discarded (R156) -/

/-- The entry whose observation is discarded as missed, its successor too. -/
def PeerEntry.missedAt (e : PeerEntry) (successor : Option Sign) : PeerEntry :=
  if successor.isSome then e.missedOnce.missedOnce else e.missedOnce

theorem State.settleTx_peer (s : State) (k : Nat) : s.settleTx.peer k = s.peer k := by
  simp [State.peer]

theorem State.told_line (l : Line) : ({ s with line := l } : State).told k e o f = { s.told k e o f with line := l } := by
  unfold State.told State.setPeer
  split <;> rfl

/-- Once an answer is queued, whether the transmitter was settled before an entry was replaced does not tell (R37). -/
theorem State.settleTx_told_answered (h : DirectiveHead) (a : AnswerOutcome) (data : List Byte) (resets : Bool) :
    (s.settleTx.told k e o f).answered h a data resets = (s.told k e o f).answered h a data resets := by
  have hline : (s.told k e o f).line = s.line := by simp [State.told]
  unfold State.settleTx
  split
  next => rfl
  next hn => simp [State.told_line, State.answered, hline, hn]

/-- START_TEST with no bar, once it is known what the observer leaves. -/
theorem exec_startTest_begun {rest : List Byte} (ht : s.Takes h rest.length) (hb : s.testBar = none)
    (hon : (s.tookDirective h).beginTest.control.mode.lineOn = true) :
    exec (.startTest h rest) s = .next ((s.tookDirective h).beginTest.answered h .done [] false) := by
  have hd : (s.tookDirective h).doStartTest = done (s.tookDirective h).beginTest := by
    rw [State.doStartTest, show (s.tookDirective h).testBar = none from hb]
  exact exec_taken (c := .startTest h rest) rfl ht hd hon

/-- START_TEST with no bar, where the observer replaces an entry and the fault unit. -/
theorem exec_startTest_told {rest : List Byte} (ht : s.Takes h rest.length) (hb : s.testBar = none)
    (hu : (s.tookDirective h).beginTest = (s.tookDirective h).atTestBegin.settleTx.told k e .empty f) :
    exec (.startTest h rest) s
      = .next (((s.tookDirective h).atTestBegin.told k e .empty f).answered h .done [] false) := by
  have hmode : (s.tookDirective h).beginTest.control.mode = .test := by
    obtain ⟨-, -, hcontrol, -⟩ := (s.tookDirective h).atTestBegin.settleTx.told_frame k e .empty f
    rw [hu, hcontrol, State.settleTx_control]
    rfl
  rw [exec_startTest_begun ht hb (by rw [hmode]; rfl), hu, State.settleTx_told_answered]

theorem State.beginTest_empty (ho : s.observation = .empty) : s.beginTest = s.atTestBegin.settleTx := by
  show s.atTestBegin.settleTx.observeTestEntry = _
  rw [State.observeTestEntry, State.settleTx_observation, show s.atTestBegin.observation = .empty from ho]

theorem State.beginTest_pending {g : Sign} {n : Nat} (ho : s.observation = .pending k g n) :
    s.beginTest = s.atTestBegin.settleTx.told k (s.peer k).missedOnce .empty s.fault := by
  have hpeer : s.atTestBegin.settleTx.peer k = s.peer k := State.settleTx_peer s.atTestBegin k
  have hfault : s.atTestBegin.settleTx.fault = s.fault := State.settleTx_fault s.atTestBegin
  show s.atTestBegin.settleTx.observeTestEntry = _
  rw [State.observeTestEntry, State.settleTx_observation, show s.atTestBegin.observation = _ from ho, ← hpeer, ← hfault]
  exact State.told_emptySlot (s := s.atTestBegin.settleTx) (k := k)

/-- A counted observation is missed once more, its successor too; with the final mark its verdict is given. -/
theorem State.beginTest_counting (hk : 1 ≤ k ∧ k ≤ 40) {g : Sign} {b : Int} {n : Nat} {succ : Option Sign}
    {final : Bool} (ho : s.observation = .counting k g b n succ final) :
    s.beginTest =
      if final then (s.atTestBegin.settleTx.told k ((s.peer k).missedAt succ) .empty s.fault).giveVerdict k
      else s.atTestBegin.settleTx.told k ((s.peer k).missedAt succ) .empty s.fault := by
  have hpeer : s.atTestBegin.settleTx.peer k = s.peer k := State.settleTx_peer s.atTestBegin k
  have hfault : s.atTestBegin.settleTx.fault = s.fault := State.settleTx_fault s.atTestBegin
  show s.atTestBegin.settleTx.observeTestEntry = _
  rw [State.observeTestEntry, State.settleTx_observation, show s.atTestBegin.observation = _ from ho, ← hpeer, ← hfault]
  generalize s.atTestBegin.settleTx = w
  have hmissed : (if succ.isSome then (w.countMissed k).countMissed k else w.countMissed k).emptySlot
      = w.told k ((w.peer k).missedAt succ) .empty w.fault := by
    have hone : w.countMissed k = w.told k (w.peer k).missedOnce w.observation w.fault := rfl
    cases succ with
    | none => exact State.told_emptySlot (s := w) (k := k)
    | some next =>
      simp only [Option.isSome, if_true, hone, State.told_countMissed hk, State.told_emptySlot]
      rfl
  dsimp only
  rw [hmissed]

/-- The verdict of a waiting observation, and the notice where it contradicts the groups (R152 to R154). -/
theorem State.beginTest_final (hk : 1 ≤ k ∧ k ≤ 40) {g : Sign} {b : Int} {n : Nat} {succ : Option Sign}
    (ho : s.observation = .counting k g b n succ true) (he : ((s.peer k).missedAt succ).concluded = e) :
    s.beginTest =
      if s.Disagrees e then
        (s.atTestBegin.settleTx.told k e .empty s.fault).takeNotice (notice .couplingMismatch k)
      else s.atTestBegin.settleTx.told k e .empty s.fault := by
  have himage : s.atTestBegin.settleTx.image = s.image :=
    congrArg (·.image.getD Image.fallback) (State.settleTx_startUnit s.atTestBegin)
  rw [State.beginTest_counting hk ho, if_pos rfl, State.giveVerdict]
  simp only [State.told_peer hk, State.told_setPeer, State.mismatch_iff s.atTestBegin.settleTx hk,
    ← PeerEntry.concluded_eq, he, State.Disagrees, himage]

theorem State.takeNotice_peer (s : State) (n : Notice) (k : Nat) : (s.takeNotice n).peer k = s.peer k := by
  simp [State.peer]

/-- COUPLING_MISMATCH in TRIP class takes the node out of TEST, the test ABORTED (R110, R142, R154). -/
theorem State.told_mismatch_aborts (hk : 1 ≤ k ∧ k ≤ 40) (hm : s.control.mode = .test)
    (ht : f.trips .couplingMismatch) {u : State}
    (hu : (s.told k e o f).takeNotice (notice .couplingMismatch k) = u) :
    u.control.mode = .report ∧ u.excitation.running = false ∧ u.observation = o ∧ u.peer k = e
      ∧ u.excitation.verdict = some (s.excitation.record .aborted) := by
  have hfixed : (notice .couplingMismatch k).kind.fixed = false := show Kind.couplingMismatch.fixed = false by decide
  have htrips : (s.told k e o f).fault.trips (notice .couplingMismatch k).kind := by
    obtain ⟨-, hfault, -⟩ := s.told_frame k e o f
    rw [hfault]
    exact ht
  have hpeer : u.peer k = e := by rw [← hu, State.takeNotice_peer, State.told_peer hk]
  have hdrop := State.takeNotice_trip (s.told k e o f) (notice .couplingMismatch k) htrips
  rw [hfixed, State.tripDrop] at hdrop
  simp only [State.told_frame, hm] at hdrop
  rw [hu] at hdrop
  refine ⟨?_, ?_, ?_, hpeer, ?_⟩ <;> simp [hdrop, State.endTest, State.zeroAuthority, State.told]

end StartTest

/-- Settles O44: the bar decides; with none, what the slot held tells what the observer leaves. -/
theorem startTestStartsOrRefuses : Obligations.StartTestStartsOrRefuses := by
  constructor
  · intro s h rest ht hm hl hst hp hf hkeys t started missed answers
    have hbar : s.testBar = none := State.testBar_eq_none hm hl hst hp hf
    let w := (s.tookDirective h).atTestBegin
    have htold {p : Nat} {e : PeerEntry} {f : FaultUnit}
        (hu : (s.tookDirective h).beginTest = w.settleTx.told p e .empty f) : answers (w.told p e .empty f) :=
      exec_startTest_told ht hbar hu
    rcases ho : s.observation with _ | ⟨p, g, n⟩ | ⟨p, g, b, n, succ, final⟩
    case empty =>
      have hu := State.beginTest_empty (s := s.tookDirective h) ho
      have hstarted : started = (s.tookDirective h).atTestBegin :=
        show { w with observation := .empty } = w by rw [← ho]; rfl
      have he := exec_startTest_begun ht hbar (by rw [hu, State.settleTx_control]; rfl)
      rwa [hu, State.settleTx_answered, ← hstarted] at he
    case pending => exact htold (State.beginTest_pending ho)
    case counting =>
      have hk : 1 ≤ p ∧ p ≤ 40 := by
        have hp := hkeys p (by simp [ho, Slot.peer?])
        simp only [stations, List.mem_range'_1] at hp
        omega
      cases final with
      | false => exact htold (State.beginTest_counting (s := s.tookDirective h) hk ho)
      | true =>
        let judged := (missed p succ).concluded
        have hu := State.beginTest_final (s := s.tookDirective h) (e := judged) hk ho rfl
        refine ⟨fun hd => ?_, fun hd hw => ?_, fun hd htr => ?_⟩
        · exact htold (hu.trans (if_neg hd))
        · have hnotice : (s.tookDirective h).beginTest = w.settleTx.told p judged .empty
              (s.fault.warned .couplingMismatch p w.settleTx.control.evaluations) :=
            (hu.trans (if_pos hd)).trans (State.told_takeNotice (n := notice .couplingMismatch p) hw)
          rw [State.settleTx_control] at hnotice
          have hwarned := htold hnotice
          rw [← State.told_fault (f := s.fault)] at hwarned
          exact hwarned
        · have hnotice : (s.tookDirective h).beginTest
              = (w.settleTx.told p judged .empty s.fault).takeNotice (notice .couplingMismatch p) :=
            hu.trans (if_pos hd)
          obtain ⟨hmode, hrun, hempty, hentry, hverdict⟩ :=
            State.told_mismatch_aborts hk (congrArg (·.mode) (State.settleTx_control w)) htr hnotice.symm
          have he := exec_startTest_begun ht hbar (congrArg Mode.lineOn hmode)
          refine ⟨_, he, hmode, hrun, hempty, hentry, ?_, ?_⟩
          · exact hverdict.trans (by rw [State.settleTx_excitation]; rfl)
          · simp only [State.answered, hnotice, State.takeNotice_frame, State.told_frame, State.settleTx_handler,
              List.map_append]
            rfl
  · intro s h rest ht answers
    have hbarred {a : AnswerOutcome} (hb : s.testBar = some a) : answers a := exec_startTest_barred ht hb
    have hbar := s.testBar_eq
    split
    next hm => exact hbarred (by rw [hbar, if_pos hm])
    next hm =>
      split
      next hp => exact hbarred (by rw [hbar, if_neg hm, if_pos hp])
      next hp => exact fun hf => hbarred (by rw [hbar, if_neg hm, if_neg hp, if_pos hf])

end Sys2Proof.Machine
end

section
/-! SUPPORT. No operation but a directive carried out takes a node into TRIM or TEST (R29, R97, R103, R104, R110, R133,
R189). -/

namespace Sys2Proof.Machine

/-- No authority is gained from `s` to `t`: a node in TRIM was in TRIM, and a node in TEST in TEST. -/
structure State.NoGain (t s : State) : Prop where
  trim : t.control.mode.isTrim = true → s.control.mode.isTrim = true
  test : t.control.mode = .test → s.control.mode = .test

section NoGain

variable {s t u : State}

theorem State.NoGain.refl (s : State) : s.NoGain s := ⟨id, id⟩

theorem State.NoGain.trans (h : u.NoGain t) (h' : t.NoGain s) : u.NoGain s := ⟨h'.trim ∘ h.trim, h'.test ∘ h.test⟩

theorem State.NoGain.of_eq (h : t.control.mode = s.control.mode) : t.NoGain s := ⟨fun ht => h ▸ ht, fun ht => h ▸ ht⟩

/-- A node left without authority has gained none. -/
theorem State.NoGain.of_none (h : t.control.mode.hasAuthority = false) : t.NoGain s := by
  constructor <;> intro ht <;> cases hm : t.control.mode <;> simp_all [Mode.hasAuthority, Mode.isTrim]

theorem State.NoGain.ite {c : Prop} [Decidable c] (ht : c → t.NoGain s) (hu : ¬ c → u.NoGain s) :
    (if c then t else u).NoGain s := by
  split
  · exact ht ‹_›
  · exact hu ‹_›

theorem State.Moves.noGain (h : t.Moves s) : t.NoGain s := ⟨h.isTrim, h.inTest⟩

/-! ### Notices and the trip drop (R97, R110, R168) -/

theorem State.noGain_toHold (s : State) : s.toHold.NoGain s := .of_none (by simp [State.toHold, Mode.hasAuthority])

theorem State.noGain_tripDrop (s : State) (toHold : Bool) : (s.tripDrop toHold).NoGain s := by
  cases toHold with
  | false => exact s.moves_tripDrop.noGain
  | true => exact .of_none (by rw [State.tripDrop_hold_mode]; rfl)

theorem State.noGain_takeNotices (s : State) (ns : List Notice) : (s.takeNotices ns).NoGain s := by
  have hr : (s.recordNotices ns).NoGain s := .of_eq (by simp)
  exact .ite (fun _ => (State.noGain_tripDrop _ _).trans hr) fun _ => hr

theorem State.noGain_takeNotice (s : State) (n : Notice) : (s.takeNotice n).NoGain s := s.noGain_takeNotices [n]

/-! ### The coupling observer and the peer table -/

theorem State.noGain_giveVerdict (s : State) (k : Nat) : (s.giveVerdict k).NoGain s := by
  have hp : (s.setPeer k { s.peer k with verdict := some (s.peer k).judged, marker := false }).NoGain s :=
    .of_eq (by simp)
  exact .ite (fun _ => (State.noGain_takeNotice _ _).trans hp) fun _ => hp

theorem State.noGain_testStart (s : State) (k : Nat) (l : Level) : (s.testStart k l).NoGain s := by
  have hgiven : (if s.observation.finalFor k then s.emptySlot.giveVerdict k else s).NoGain s :=
    .ite (fun _ => (State.noGain_giveVerdict s.emptySlot k).trans (.of_eq rfl)) fun _ => .refl s
  refine State.NoGain.trans (.of_eq ?_) hgiven
  simp [State.testStart]

theorem State.noGain_testEnd (s : State) (k : Nat) : (s.testEnd k).NoGain s := by
  unfold State.testEnd
  split
  · exact .ite (fun _ => .of_eq rfl) fun _ => s.noGain_giveVerdict k
  · refine .ite (fun _ => ?_) fun _ => s.noGain_giveVerdict k
    exact (State.noGain_giveVerdict _ k).trans (.of_eq (by simp))
  · exact s.noGain_giveVerdict k

theorem State.noGain_observeUpdate (s : State) (k : Nat) (previous : Option Contents) (now : Contents) :
    (s.observeUpdate k previous now).NoGain s := by
  unfold State.observeUpdate
  split
  · exact .refl s
  · split
    · exact .ite (fun _ => .of_eq (by simp)) fun _ => .refl s
    · exact .ite (fun _ => s.noGain_testEnd k) fun _ => .refl s
    · exact s.noGain_testStart k _
    · exact .refl s

theorem State.noGain_observeDemotion (s : State) (d : Demotion) : (s.observeDemotion d).NoGain s := .of_eq (by simp)

theorem State.noGain_takeReport (s : State) (k : Nat) (r : Report) : (s.takeReport k r).NoGain s := by
  have hp : (s.setPeer k ((s.peer k).take s.image.passThreshold s.clock r)).NoGain s := .of_eq (by simp)
  have hbreak (t : State) (q : Bool) : (t.afterBreak k q).NoGain t :=
    (State.noGain_observeDemotion _ _).trans (.ite (fun _ => t.noGain_takeNotice _) fun _ => .refl t)
  exact (State.noGain_observeUpdate _ k _ _).trans (.ite (fun _ => (hbreak _ _).trans hp) fun _ => hp)

theorem State.noGain_reportArrives (s : State) (k : Nat) (p : List Byte) : (s.reportArrives k p).NoGain s := by
  unfold State.reportArrives
  split
  · exact s.noGain_takeReport k _
  · exact .refl s

theorem State.noGain_watchdogDue (s : State) (due : WatchdogDue) : (s.watchdogDue due).NoGain s := by
  have hexpire (t : State) (k : Nat) : (t.expire k).NoGain t := by
    have hp : (t.setPeer k (t.peer k).lapse).NoGain t := .of_eq (by simp)
    exact (State.noGain_observeDemotion _ _).trans (.ite (fun _ => (State.noGain_takeNotice _ _).trans hp) fun _ => hp)
  unfold State.watchdogDue
  split
  · exact .ite (fun _ => (hexpire _ _).trans (.of_eq rfl)) fun _ => .refl s
  · exact .refl s

/-! ### Frames other than directives, and attempts (R31 to R44) -/

theorem State.noGain_judgeBad (s : State) : s.judgeBad.NoGain s := by
  have hlose (t : State) : t.loseStep.NoGain t := .of_eq (by simp)
  refine .ite (fun _ => ?_) fun _ => (State.noGain_takeNotice _ _).trans (.of_eq rfl)
  exact (hlose _).trans ((State.noGain_takeNotices _ _).trans (.of_eq rfl))

theorem State.noGain_receiveBad (s : State) : s.receiveBad.NoGain s :=
  .ite (fun _ => s.noGain_judgeBad) fun _ => .refl s

theorem State.noGain_endAttempt (s : State) (rx : RxState) : (s.endAttempt rx).NoGain s := .of_eq (by simp)

theorem State.noGain_loseBit (s : State) : s.loseBit.NoGain s :=
  .ite (fun _ => (State.noGain_takeNotice _ _).trans (s.noGain_endAttempt _)) fun _ => .refl s

theorem State.noGain_faultBit (s : State) : s.faultBit.NoGain s :=
  .ite (fun _ => (State.noGain_judgeBad _).trans (s.noGain_endAttempt _)) fun _ => .refl s

theorem State.noGain_beginAttempt (s : State) : s.beginAttempt.NoGain s := by
  rcases s.beginAttempt_cases with h | ⟨a, -, -, -, -, h⟩ <;> rw [h]
  · exact .refl s
  · exact .of_eq rfl

theorem State.noGain_answerDone (s : State) : s.answerDone.NoGain s := by
  rcases s.answerDone_cases with h | ⟨-, a, rest, -, h⟩ | ⟨-, -, h⟩ <;> rw [h]
  · exact .refl s
  · exact .ite (fun _ => .of_none rfl) fun _ => (State.noGain_endAttempt _ _).trans (.of_eq rfl)
  · exact s.noGain_endAttempt _

/-- A frame routed gains no authority, but for a directive (R35, R36). -/
theorem State.noGain_route (s : State) {c : Byte} (hc : frameClass c ≠ 0) (payload : List Byte) :
    (s.route c payload).NoGain s := by
  unfold State.route
  split
  next h => exact absurd h hc
  · exact .ite (fun _ => s.noGain_takeNotice _) fun _ => .refl s
  · exact .ite (fun _ => s.noGain_takeNotice _) fun _ => s.noGain_reportArrives _ _
  · exact .refl s

theorem State.noGain_takeTableEvent (s : State) (e : TableEvent) : (s.takeTableEvent e).NoGain s := by
  cases e with
  | report m k p =>
    refine .ite (fun _ => .ite (fun _ => ?_) fun _ => s.noGain_judgeBad) fun _ => .refl s
    exact (State.noGain_route _ (by simp [frameClass_contention]) p).trans (.of_eq rfl)
  | badFrame => exact s.noGain_receiveBad
  | faultyBitAbort => exact s.noGain_faultBit
  | watchdogExpiry due => exact s.noGain_watchdogDue due

/-! ### The tracker, the drive link and an evaluation (R14, R21, R95) -/

theorem State.noGain_gateElapsed (s : State) : s.gateElapsed.NoGain s :=
  .ite (fun _ => .refl s) fun _ => .ite (fun _ => (State.noGain_takeNotice _ _).trans (.of_eq rfl)) fun _ => .of_eq rfl

theorem State.noGain_torqueCharacter (s : State) (c : Byte) : (s.torqueCharacter c).NoGain s := by
  unfold State.torqueCharacter
  split
  · exact .ite (fun _ => .of_eq rfl) fun _ => .refl s
  · refine .ite (fun _ => .ite (fun _ => ?_) fun _ => .of_eq rfl) fun _ => .of_eq rfl
    exact (State.noGain_takeNotices _ _).trans (.of_eq rfl)
  · exact .of_eq rfl

theorem State.noGain_torqueArrives (s : State) (chars : List Byte) : (s.torqueArrives chars).NoGain s := by
  have hfold (t : State) : (chars.foldl State.torqueCharacter t).NoGain t := by
    induction chars generalizing t with
    | nil => exact .refl t
    | cons c chars ih => exact (ih _).trans (t.noGain_torqueCharacter c)
  exact .ite (fun _ => .refl s) fun _ => hfold s

theorem State.noGain_cutTorque (s : State) : s.cutTorque.NoGain s := .ite (fun _ => .refl s) fun _ => .of_eq rfl

theorem State.noGain_workSeeing (s : State) (began : Mode) (seen : List (Nat × PeerEntry)) (w : EvalWork) :
    (State.workSeeing began s seen w).NoGain s := by
  refine .ite (fun _ => ?_) fun _ => (s.moves_work began w).noGain
  obtain ⟨htrim, htest⟩ := (State.moves_work began { s with peers := s.tableSeen seen } w).noGain
  exact ⟨htrim, htest⟩

theorem State.noGain_evaluated (s : State) (order : List EvalWork) (during : List Interruption) :
    (s.evaluated order during).NoGain s := by
  have hworks : (s.countEvaluation.runWorks order during).NoGain s :=
    State.runWorks_during_induct (P := (·.NoGain s)) order during (.of_eq rfl)
      (fun e t ht => (t.noGain_takeTableEvent e).trans ht) fun w seen t ht => (t.noGain_workSeeing _ seen w).trans ht
  exact State.NoGain.trans (.of_eq (by simp [State.evaluated])) hworks

theorem State.noGain_takeLate (s : State) {e : LateEvent} (he : ∀ moment chars, e ≠ .goodFrame moment chars) :
    (s.takeLate e).NoGain s := by
  cases e with
  | goodFrame m chars => exact absurd rfl (he m chars)
  | gateEnd => exact s.noGain_gateElapsed
  | torqueFrame chars => exact s.noGain_torqueArrives chars
  | torqueGapCutOff => exact s.noGain_cutTorque
  | torqueFramingError => exact s.noGain_cutTorque
  | badFrame => exact s.noGain_receiveBad
  | watchdogExpiry due => exact s.noGain_watchdogDue due
  | payloadBitLoss => exact s.noGain_loseBit
  | faultyBitAbort => exact s.noGain_faultBit
  | attempt => exact .ite (fun _ => .refl s) fun _ => s.noGain_beginAttempt
  | answerSent => exact s.noGain_answerDone

theorem State.noGain_formReference (s : State) : s.formReference.NoGain s := .of_eq (by simp)

/-- An evaluation with no frame among its late events. -/
theorem State.noGain_evaluation (s : State) {course : Schedule}
    (hlate : ∀ moment chars, .goodFrame moment chars ∉ course.late) :
    ((course.late.foldl State.takeLate (s.evaluated course.order course.during)).formReference).NoGain s := by
  have hfold (late : List LateEvent) (hl : ∀ moment chars, .goodFrame moment chars ∉ late) (t : State) :
      (late.foldl State.takeLate t).NoGain t := by
    induction late generalizing t with
    | nil => exact .refl t
    | cons e late ih =>
      refine (ih (fun m c hm => hl m c (List.mem_cons_of_mem _ hm)) _).trans (t.noGain_takeLate ?_)
      rintro m c rfl
      exact hl m c List.mem_cons_self
  exact (State.noGain_formReference _).trans ((hfold _ hlate _).trans (s.noGain_evaluated _ _))

end NoGain

end Sys2Proof.Machine
end

section
/-! SUPPORT. What takes a node into TRIM and TEST: SET_MODE and START_TEST from REPORT with their conditions (R101,
R109, R130). -/

namespace Sys2Proof.Machine

/-- R101's conditions for entry to TRIM, from REPORT. -/
def State.MayTrim (s : State) : Prop :=
  s.control.mode = .report ∧ s.tracker.state = .locked ∧ s.drive.ready = true ∧ s.drive.staleRun = 0
    ∧ s.image.group ≠ 0 ∧ s.fault.status &&& s.fault.classMap = 0

/-- R130's conditions for the start of a test. -/
def State.MayTest (s : State) : Prop :=
  s.control.mode = .report ∧ s.tracker.state = .locked ∧ s.drive.staleRun = 0
    ∧ s.excitation.pattern.isSome = true ∧ s.fault.status &&& s.fault.classMap = 0

/-- Authority is gained from `s` to `t` only where the conditions hold in `s`. -/
structure State.Licensed (t s : State) : Prop where
  trim : t.control.mode.isTrim = true → s.control.mode.isTrim = true ∨ s.MayTrim
  test : t.control.mode = .test → s.control.mode = .test ∨ s.MayTest

section Licensed

variable {s t u : State}

theorem State.NoGain.licensed (h : t.NoGain s) : t.Licensed s :=
  ⟨fun ht => .inl (h.trim ht), fun ht => .inl (h.test ht)⟩

theorem State.Licensed.of_eq (h : t.control.mode = s.control.mode) : t.Licensed s := (State.NoGain.of_eq h).licensed

/-- What follows without a gain leaves the licence as it is. -/
theorem State.Licensed.after (h : t.Licensed s) (h' : u.NoGain t) : u.Licensed s := ⟨h.trim ∘ h'.trim, h.test ∘ h'.test⟩

theorem State.Licensed.ite {c : Prop} [Decidable c] (ht : c → t.Licensed s) (hu : ¬ c → u.Licensed s) :
    (if c then t else u).Licensed s := by
  split
  · exact ht ‹_›
  · exact hu ‹_›

/-! ### The directives carried out -/

theorem ite_some_eq_none {α : Type} {c : Prop} [Decidable c] {a : α} {o : Option α} :
    (if c then some a else o) = none ↔ ¬ c ∧ o = none := by
  by_cases h : c <;> simp [h]

theorem State.mayTrim_of_trimBar (hm : s.control.mode = .report) (hb : s.trimBar = none) : s.MayTrim := by
  simp only [State.trimBar_eq, ite_some_eq_none] at hb
  obtain ⟨hl, hd, hg, hf, -⟩ := hb
  obtain ⟨hready, hstale⟩ := not_or.mp hd
  exact ⟨hm, not_not.mp hl, Bool.not_eq_false _ ▸ hready, by omega, hg, not_not.mp hf⟩

theorem State.mayTest_of_testBar (hb : s.testBar = none) : s.MayTest := by
  simp only [State.testBar_eq, ite_some_eq_none, not_or, not_not] at hb
  obtain ⟨⟨hm, hl, hstale⟩, hp, hf, -⟩ := hb
  exact ⟨hm, hl, by omega, Option.isSome_iff_ne_none.mpr hp, hf⟩

theorem State.licensed_refl (s : State) : s.Licensed s := (State.NoGain.refl s).licensed

/-- A change to a mode without authority. -/
theorem State.licensed_changeMode {m : Mode} (hm : m.hasAuthority = false) : (t.changeMode m).Licensed s :=
  (State.NoGain.of_none (by simpa using hm)).licensed

/-- A change of phase within TRIM. -/
theorem State.licensed_changePhase (hm : s.control.mode.isTrim = true) (p : Phase) : (s.changePhase p).Licensed s :=
  ⟨fun _ => .inl hm, nofun⟩

theorem State.licensed_enterTrim (h : s.MayTrim) : s.enterTrim.Licensed s :=
  ⟨fun _ => .inr h, fun ht => by simp [State.enterTrim] at ht⟩

theorem State.licensed_doSetMode (s : State) (target : Nat) : (s.doSetMode target).node.Licensed s := by
  unfold State.doSetMode
  split
  · unfold State.towardListen
    split
    · exact s.licensed_refl
    · exact State.licensed_changeMode rfl
    · exact s.licensed_refl
  · unfold State.towardReport
    split
    · exact State.licensed_changeMode rfl
    · exact s.licensed_refl
    · exact s.licensed_refl
    next hm =>
      exact .ite (fun _ => State.licensed_changeMode rfl) fun _ => State.licensed_changePhase (by rw [hm]; rfl) _
    · exact s.licensed_refl
  · unfold State.towardTrim
    split
    next hm =>
      split
      · exact s.licensed_refl
      next hb => exact State.licensed_enterTrim (State.mayTrim_of_trimBar hm hb)
    next hm =>
      have ht : s.control.mode.isTrim = true := by rw [hm]; rfl
      exact .ite (fun _ => State.licensed_changePhase ht _) fun _ => State.licensed_changePhase ht _
    · exact s.licensed_refl
    · exact s.licensed_refl
  · exact s.licensed_refl

theorem State.noGain_observeTestEntry (s : State) : s.observeTestEntry.NoGain s := by
  unfold State.observeTestEntry
  split
  · exact .refl s
  · exact .of_eq (by simp)
  next k _ _ _ succ final _ =>
    have he : (if succ.isSome then (s.countMissed k).countMissed k else s.countMissed k).emptySlot.NoGain s :=
      .of_eq (by split <;> simp)
    exact .ite (fun _ => (State.noGain_giveVerdict _ k).trans he) fun _ => he

theorem State.licensed_doStartTest (s : State) : s.doStartTest.node.Licensed s := by
  unfold State.doStartTest
  split
  · exact s.licensed_refl
  next hb =>
    have hbegin : s.atTestBegin.settleTx.Licensed s := by
      refine ⟨fun ht => ?_, fun _ => .inr (State.mayTest_of_testBar hb)⟩
      rw [State.settleTx_control] at ht
      exact absurd ht (by simp [State.atTestBegin, State.inMode, Mode.isTrim])
    exact hbegin.after (State.noGain_observeTestEntry _)

theorem State.licensed_doStopTest (s : State) : s.doStopTest.node.Licensed s := by
  unfold State.doStopTest
  split
  · exact State.licensed_changeMode rfl
  · exact s.licensed_refl

theorem State.doTune_control (s : State) (item : Nat) (hi lo : Byte) :
    (s.doTune item hi lo).node.control = s.control := by
  have hmask (set : FaultUnit → Kind → Bool → FaultUnit) (number value : Nat) :
      (s.tuneMask set number value).node.control = s.control := by
    unfold State.tuneMask
    split <;> rfl
  unfold State.doTune
  split
  · split
    · rfl
    · exact hmask ..
    · exact hmask ..
    · split <;> rfl
  · rfl

theorem State.licensed_carryOut (s : State) (kind : Nat) (args : List Byte) :
    (s.carryOut kind args).node.Licensed s := by
  unfold State.carryOut
  split
  · exact s.licensed_doSetMode _
  · obtain ⟨p, hp⟩ := s.doLoadPattern_frame (arg args 0).toNat ((args.drop 1).take 8) (arg args 9).toNat
      (u16 (arg args 10) (arg args 11)) (u16 (arg args 12) (arg args 13)) (arg args 14)
    rw [hp]
    exact .of_eq rfl
  · exact s.licensed_doStartTest
  · exact s.licensed_doStopTest
  · exact .of_eq rfl
  · exact .of_eq (by rw [State.doTune_control])
  · rw [State.doRead_node]
    exact s.licensed_refl
  · exact .of_eq rfl
  · exact s.licensed_refl
  · exact s.licensed_refl

theorem State.licensed_reply (s : State) (kind : Nat) (args : List Byte) : (s.reply kind args).node.Licensed s := by
  unfold State.reply
  split
  · exact s.licensed_refl
  · exact s.licensed_carryOut ..

/-- Counting the directive changes nothing that the licence reads. -/
theorem State.Licensed.of_countDirective (h : t.Licensed s.countDirective) : t.Licensed s := ⟨h.trim, h.test⟩

theorem State.licensed_takeAddressed (s : State) (terminal tag kind : Byte) (args : List Byte) :
    (s.takeAddressed terminal tag kind args).Licensed s :=
  (State.licensed_reply s.countDirective kind.toNat args).of_countDirective.after
    (.of_eq (by simp [State.takeAddressed]))

theorem State.licensed_takeBroadcast (s : State) (kind : Byte) : (s.takeBroadcast kind).Licensed s := by
  refine .ite (fun _ => ?_) fun _ => .ite (fun _ => ?_) fun _ => s.licensed_refl
  · exact (State.licensed_doStopTest s.countDirective).of_countDirective
  · exact .of_eq rfl

theorem State.licensed_directive (s : State) (terminal : Byte) (payload : List Byte) :
    (s.directive terminal payload).Licensed s := by
  have hdrop : (s.dropDirective terminal).NoGain s := (State.noGain_takeNotice _ _).trans (.of_eq rfl)
  unfold State.directive
  split
  · refine .ite (fun _ => .ite (fun _ => ?_) fun _ => ?_) fun _ => .ite (fun _ => ?_) fun _ => s.licensed_refl
    · exact s.licensed_takeAddressed ..
    · exact hdrop.licensed
    · exact s.licensed_takeBroadcast _
  · exact s.licensed_refl

/-! ### Frames and commands -/

theorem State.licensed_receive (s : State) (moment : Nat) (c : Byte) (payload : List Byte) :
    (s.receive moment c payload).Licensed s := by
  refine .ite (fun _ => .ite (fun _ => ?_) fun _ => s.noGain_judgeBad.licensed) fun _ => s.licensed_refl
  by_cases hc : frameClass c = 0
  · have hroute : (s.countGood moment).route c payload = (s.countGood moment).directive c payload := by
      rw [State.route, hc]
      rfl
    rw [hroute]
    obtain ⟨htrim, htest⟩ := (s.countGood moment).licensed_directive c payload
    exact ⟨htrim, htest⟩
  · have hcount : (s.countGood moment).NoGain s := .of_eq rfl
    exact ((State.noGain_route _ hc payload).trans hcount).licensed

theorem State.licensed_receiveChars (s : State) (moment : Nat) (chars : List Byte) :
    (s.receiveChars moment chars).Licensed s := by
  unfold State.receiveChars
  split
  · exact s.licensed_receive ..
  · exact s.noGain_receiveBad.licensed

/-- START's end in LISTEN leaves a node without authority (R96). -/
theorem State.noGain_enterListen (s t : State) : t.enterListen.NoGain s :=
  .of_none (by simp [State.enterListen, Mode.hasAuthority])

theorem State.noGain_startBad (s : State) : s.startBad.NoGain s := (State.noGain_takeNotice _ _).trans (.of_eq rfl)

theorem exec_licensed {c : Instr} {s t : State} (he : exec c s = .next t)
    (hlate : ∀ course moment chars, c = .evaluation course → .goodFrame moment chars ∉ course.late) :
    t.Licensed s := by
  cases hd : directiveOf c with
  | some d =>
    rw [exec_directiveOf hd] at he
    obtain rfl := Host.Outcome.next.inj he
    exact s.licensed_receive ..
  | none =>
    cases c <;> simp only [directiveOf, reduceCtorEq] at hd
    case goodFrame => obtain rfl := Host.Outcome.next.inj he; exact s.licensed_receiveChars ..
    case reportArrival => obtain rfl := Host.Outcome.next.inj he; exact s.licensed_receive ..
    all_goals obtain rfl := Host.Outcome.next.inj he; refine State.NoGain.licensed ?_
    case hardwareReset => exact .of_none rfl
    case resetPinAsserted => exact .of_none rfl
    case startCheck record =>
      exact .ite (fun _ => .ite (fun _ => s.noGain_enterListen _) fun _ => s.noGain_startBad) fun _ => .refl s
    case softStartEnd => exact .ite (fun _ => s.noGain_enterListen _) fun _ => .refl s
    case encoderEdge => exact .ite (fun _ => .refl s) fun _ => .of_eq rfl
    case gateEnd => exact s.noGain_gateElapsed
    case torqueFrame => exact s.noGain_torqueArrives _
    case torqueGapCutOff => exact s.noGain_cutTorque
    case torqueFramingError => exact s.noGain_cutTorque
    case evaluation course =>
      exact .ite (fun _ => .refl s) fun _ => s.noGain_evaluation (hlate course · · rfl)
    case badFrame => exact s.noGain_receiveBad
    case watchdogExpiry due => exact s.noGain_watchdogDue due
    case attempt => exact s.noGain_beginAttempt
    case contentionLost => exact .ite (fun _ => s.noGain_endAttempt _) fun _ => .refl s
    case payloadBitLoss => exact s.noGain_loseBit
    case faultyBitAbort => exact s.noGain_faultBit
    case reportSent => exact .ite (fun _ => (State.noGain_endAttempt _ _).trans (.of_eq rfl)) fun _ => .refl s
    case answerSent => exact s.noGain_answerDone
    case lineIdle => exact .ite (fun _ => .of_eq rfl) fun _ => .refl s

end Licensed

/-- Settles O42: what no directive does gains no authority, and the directives are barred by their conditions. -/
theorem authorityNeedsItsConditions : Obligations.AuthorityNeedsItsConditions := by
  intro c s t he hlate
  obtain ⟨htrim, htest⟩ := exec_licensed he hlate
  exact ⟨fun ht hs => (htrim ht).resolve_left (by simp [hs]), fun ht hs => (htest ht).resolve_left hs⟩

end Sys2Proof.Machine
end

section
/-! SUPPORT. The float code of a count (R137, R138, R195). -/

namespace Sys2Proof.Machine

/-! ### The layout -/

/-- A code with this mantissa and exponent decodes to its value (R137). -/
theorem floatDecode_code (m e : Fin 16) : floatDecode (BitVec.ofNat 8 (16 * m.val + e.val)) = m.val * 2 ^ e.val := by
  have hcode : (BitVec.ofNat 8 (16 * m.val + e.val)).toNat = 16 * m.val + e.val := toNat_byte_of_lt (by omega)
  have hmantissa : (16 * m.val + e.val) / 16 = m.val := by omega
  have hexponent : (16 * m.val + e.val) % 16 = e.val := by omega
  rw [floatDecode, hcode, hmantissa, hexponent]

/-- Settles O55: the two halves of a code, and the largest of each. -/
theorem floatCodeDecodes : Obligations.FloatCodeDecodes := by
  refine ⟨floatDecode_code, fun code => ?_, by decide, fun e => ?_, by decide⟩
  · have hmantissa : code.toNat / 16 ≤ 15 := by omega
    have hexponent : code.toNat % 16 ≤ 15 := by omega
    calc floatDecode code ≤ 15 * 2 ^ 15 := Nat.mul_le_mul hmantissa (Nat.pow_le_pow_right (by decide) hexponent)
      _ = 491520 := by decide
  · simpa using floatDecode_code 0 e

/-! ### The mantissa rounded up -/

theorem ceilDiv_eq {d : Nat} (hd : 0 < d) (c : Nat) : ceilDiv c d = (c + d - 1) / d := by
  rw [ceilDiv, Nat.add_sub_assoc hd]

/-- Rounded up, a quotient reads back as the count or more, and by less than the divisor more. -/
theorem ceilDiv_mul_bounds {d : Nat} (hd : 0 < d) (c : Nat) : c ≤ ceilDiv c d * d ∧ ceilDiv c d * d < c + d := by
  have hsplit := Nat.div_add_mod' (c + (d - 1)) d
  have hrest := Nat.mod_lt (c + (d - 1)) hd
  unfold ceilDiv
  omega

theorem ceilDiv_le_iff {d : Nat} (hd : 0 < d) (c n : Nat) : ceilDiv c d ≤ n ↔ c ≤ n * d := by
  rw [ceilDiv, Nat.div_le_iff_le_mul hd]
  omega

/-- A count that the divisor divides is read back exactly. -/
theorem ceilDiv_mul_of_dvd {c d : Nat} (hd : 0 < d) (h : d ∣ c) : ceilDiv c d * d = c := by
  obtain ⟨k, rfl⟩ := h
  have hk : ceilDiv (d * k) d = k := by
    rw [ceilDiv, Nat.mul_add_div hd, Nat.div_eq_of_lt (by omega), Nat.add_zero]
  rw [hk, Nat.mul_comm]

/-! ### The smallest exponent -/

/-- The mantissa of a count at this exponent fits, and at no exponent before it. -/
structure LeastExponent (c e : Nat) : Prop where
  fits : ceilDiv c (2 ^ e) ≤ 15
  least : ∀ e' < e, 15 < ceilDiv c (2 ^ e')

/-- A search that reaches an exponent that fits finds the smallest, if none was passed over before it began. -/
theorem floatSearch_spec {c : Nat} {fuel e : Nat} (hreach : ceilDiv c (2 ^ (e + fuel)) ≤ 15)
    (hpassed : ∀ e' < e, 15 < ceilDiv c (2 ^ e')) :
    ∃ f ≤ e + fuel, floatSearch c (fuel + 1) e = (ceilDiv c (2 ^ f), f) ∧ LeastExponent c f := by
  induction fuel generalizing e with
  | zero => exact ⟨e, le_rfl, if_pos hreach, hreach, hpassed⟩
  | succ fuel ih =>
    by_cases hfits : ceilDiv c (2 ^ e) ≤ 15
    · exact ⟨e, by omega, if_pos hfits, hfits, hpassed⟩
    · have hnext : ∀ e' < e + 1, 15 < ceilDiv c (2 ^ e') := fun e' he' => by
        rcases Nat.lt_succ_iff_lt_or_eq.mp he' with h | rfl
        · exact hpassed e' h
        · exact Nat.lt_of_not_le hfits
      obtain ⟨f, hf, hsearch, hleast⟩ := ih (e := e + 1) (by rwa [Nat.add_right_comm]) hnext
      exact ⟨f, by omega, (if_neg hfits).trans hsearch, hleast⟩

/-- A count that a code can hold is encoded with the smallest exponent that fits, and the mantissa at it (R138). -/
theorem floatEncode_spec {c : Nat} (h : c ≤ 491520) :
    ∃ m e : Fin 16, floatEncode c = BitVec.ofNat 8 (16 * m.val + e.val) ∧ m.val = ceilDiv c (2 ^ e.val)
      ∧ LeastExponent c e.val := by
  have hreach : ceilDiv c (2 ^ (0 + 15)) ≤ 15 := (ceilDiv_le_iff (by decide) c 15).mpr h
  obtain ⟨f, hf, hsearch, hleast⟩ := floatSearch_spec hreach fun e' he' => absurd he' (Nat.not_lt_zero e')
  refine ⟨⟨ceilDiv c (2 ^ f), Nat.lt_succ_of_le hleast.fits⟩, ⟨f, by omega⟩, ?_, rfl, hleast⟩
  rw [floatEncode, if_neg (Nat.not_lt.mpr h), hsearch, Nat.mul_comm 16]
  rfl

/-- A count of at most 15 needs no exponent. -/
theorem floatEncode_small {c : Nat} (h : c ≤ 15) : floatEncode c = BitVec.ofNat 8 (16 * c) := by
  obtain ⟨m, e, hcode, hm, hleast⟩ := floatEncode_spec (h.trans (by decide))
  have hfits : ceilDiv c (2 ^ 0) ≤ 15 := (ceilDiv_le_iff (by decide) c 15).mpr (by simpa using h)
  have he : e.val = 0 := by
    by_contra hne
    exact absurd (hleast.least 0 (by omega)) (by omega)
  have hexact : ceilDiv c (2 ^ 0) = c := by simpa using ceilDiv_mul_of_dvd Nat.one_pos (one_dvd c)
  rw [hcode, hm, he, hexact, Nat.add_zero]

/-- Settles O56: the smallest exponent that fits, the mantissa rounded up at it. -/
theorem floatCodeOfCount : Obligations.FloatCodeOfCount := by
  refine ⟨fun c => ⟨floatEncode_small, fun h => if_pos h, fun _ h => ?_, fun h => ?_⟩, fun m e => ?_⟩
  · obtain ⟨m, e, hcode, hm, hleast⟩ := floatEncode_spec h
    refine ⟨m, e, hcode, hm.trans (ceilDiv_eq (Nat.two_pow_pos _) c), fun e' he' => ?_⟩
    rw [← ceilDiv_eq (Nat.two_pow_pos _)]
    exact hleast.least e' he'
  · obtain ⟨m, e, hcode, hm, -⟩ := floatEncode_spec h
    refine ⟨m, e, hcode, by rw [hcode, floatDecode_code], ?_⟩
    rw [hm]
    exact ceilDiv_mul_bounds (Nat.two_pow_pos _) c
  · have hfits : ceilDiv (m.val * 2 ^ e.val) (2 ^ e.val) ≤ 15 :=
      (ceilDiv_le_iff (Nat.two_pow_pos _) _ _).mpr (Nat.mul_le_mul_right _ (by omega))
    have hmax : m.val * 2 ^ e.val ≤ 15 * 2 ^ 15 :=
      Nat.mul_le_mul (by omega) (Nat.pow_le_pow_right (by decide) (by omega))
    obtain ⟨n, f, hcode, hn, hleast⟩ := floatEncode_spec hmax
    have hfe : f.val ≤ e.val := Nat.le_of_not_lt fun h => absurd (hleast.least e.val h) (Nat.not_lt.mpr hfits)
    refine ⟨n, f, hcode, ?_, hfe⟩
    rw [hn]
    exact ceilDiv_mul_of_dvd (Nat.two_pow_pos _) ((Nat.pow_dvd_pow 2 hfe).mul_left _)

end Sys2Proof.Machine
end

section
/-! SUPPORT. READ of the fault unit, the excitation unit, the tuning values and the snapshot (R143, R173, R181 to R183,
R193). -/

namespace Sys2Proof.Machine

/-! ### Items that can be absent -/

/-- READ of an item that is present or absent, by which of the two it is (R181). -/
theorem exec_read_item {c : Instr} {s : State} {h : DirectiveHead} {item index : Byte} {rest : List Byte}
    (hd : directiveOf c = some (h, 7, item :: index :: rest)) (ht : s.Takes h (2 + rest.length))
    {d : Option (List Byte)} (hitem : (s.tookDirective h).readItem item.toNat index.toNat = d) :
    exec c s = .next (d.elim ((s.tookDirective h).answered h .badValue [] false)
      fun data => (s.tookDirective h).answered h .done data false) := by
  cases d with
  | none => exact exec_read_bad hd ht hitem
  | some data => exact exec_read_done hd ht hitem

/-! ### COUNTS (R173) -/

theorem Kind.ofNumber?_number (k : Kind) : Kind.ofNumber? k.number = some k := by cases k <;> rfl

/-- Each place of the counts is a kind's. -/
theorem Kind.exists_number (n : Fin 16) : ∃ k : Kind, k.number = n.val + 1 := by
  have hall : ∀ n : Fin 16, ∃ k ∈ Kind.ofNumber? (n.val + 1), k.number = n.val + 1 := by decide
  obtain ⟨k, -, hk⟩ := hall n
  exact ⟨k, hk⟩

theorem Kind.ofNumber?_outside {n : Nat} (h : n = 0 ∨ 16 < n) : Kind.ofNumber? n = none := by
  rcases h with rfl | h
  · rfl
  · obtain ⟨m, rfl⟩ : ∃ m, n = m + 17 := ⟨n - 17, by omega⟩
    rfl

theorem State.readItem_counts (s : State) (n : Fin 16) :
    s.readItem 5 (n.val + 1) = some [byte s.fault.counts[n]] := by
  obtain ⟨k, hk⟩ := Kind.exists_number n
  have hcount : s.fault.countOf k = s.fault.counts[n] := by simp [FaultUnit.countOf, hk]
  rw [← hcount, State.readItem, ← hk, Kind.ofNumber?_number]
  rfl

theorem State.readItem_counts_outside (s : State) {n : Nat} (h : n = 0 ∨ 16 < n) : s.readItem 5 n = none := by
  rw [State.readItem, Kind.ofNumber?_outside h]
  rfl

/-! ### Data field by field -/

theorem TripContents.cons_data_eq (c : TripContents) (multiple : Bool) (state : Byte) :
    state :: c.data multiple
      = [state, byte c.kind.number, byte c.source] ++ be32 c.evaluation.toNat
        ++ (byte c.mode.code :: optionalCode (c.mode.phase?.map Phase.code))
        ++ be16 c.speed ++ [flagByte c.speedValid] ++ be16s c.torque ++ be16s c.integrator ++ [byte c.authority]
        ++ optionalCode c.testStep ++ optionalCode (c.cause.map Cause.code) ++ [flagByte multiple] := by
  simp only [TripContents.data, List.append_assoc, List.cons_append, List.nil_append]

theorem State.tuningData_eq (s : State) :
    s.tuningData
      = be16 s.handler.tuning.shareGain ++ be16 s.handler.tuning.deadband ++ be16 s.handler.tuning.rateLimit
        ++ be16 s.handler.tuning.trimLimit ++ be16 s.handler.tuning.shareTolerance
        ++ be16s s.handler.tuning.drawSetpoint ++ be16 s.handler.tuning.drawTolerance
        ++ [byte s.handler.tuning.couplingWindow] ++ be16 s.handler.tuning.couplingThreshold
        ++ optionalCode s.tracker.pin := by
  simp only [State.tuningData, List.append_assoc, List.cons_append, List.nil_append]

/-! ### The statement -/

/-- Settles O51: each item by its data, or by its absence. -/
theorem readRecordedData : Obligations.ReadRecordedData := by
  constructor
  · intro s h index rest ht answers flag trip warn
    have htrip : ∀ (state : Byte) (c : TripContents), state :: c.data s.fault.multipleTrip = trip state c := by
      intro state c
      rw [TripContents.cons_data_eq]
      congr 10
      · rcases c.mode with _ | _ | _ | _ | p | _
        case trim => cases p <;> rfl
        all_goals rfl
      · cases c.testStep <;> rfl
      · rcases c.cause with _ | cause
        · rfl
        · cases cause <;> rfl
    refine ⟨exec_read_done rfl ht rfl, fun n hn => exec_read_done rfl ht ?_, fun hn => exec_read_bad rfl ht ?_, ?_,
      ?_⟩
    · rw [hn]
      exact State.readItem_counts _ n
    · exact State.readItem_counts_outside _ hn
    · refine (exec_read_item rfl ht (d := s.fault.firstTripData) rfl).trans ?_
      unfold FaultUnit.firstTripData
      simp only [← htrip]
      cases s.fault.firstTrip <;> rfl
    · refine (exec_read_item rfl ht (d := s.fault.firstWarnData) rfl).trans ?_
      unfold FaultUnit.firstWarnData
      cases s.fault.firstWarn <;> rfl
  · intro s h index rest ht answers u
    refine ⟨?_, ?_, ?_, ?_⟩
    · refine (exec_read_item rfl ht (d := s.excitation.pattern.map patternChars) rfl).trans ?_
      cases s.excitation.pattern <;> rfl
    · refine (exec_read_item rfl ht (d := s.excitation.verdict.map Verdict.data) rfl).trans ?_
      cases s.excitation.verdict with
      | none => rfl
      | some v => rcases v with ⟨o, _⟩; cases o <;> rfl
    · refine exec_read_done rfl ht (congrArg some (?_ : State.tuningData s = _))
      rw [State.tuningData_eq]
      congr 1
      cases s.tracker.pin <;> rfl
    · refine (exec_read_item rfl ht (d := s.handler.snapshot.map Snapshot.data) rfl).trans ?_
      cases s.handler.snapshot <;> rfl

end Sys2Proof.Machine
end

section
/-! SUPPORT. LOAD_PATTERN: its level codes read, its arguments taken, and the pattern it stores (R126 to R128, R192). -/

namespace Sys2Proof.Machine

/-! ### Level codes (R127, R192) -/

/-- The level that a code other than 10 stands for. -/
def levelOfCode (code : Nat) : Level := if code = 0 then .zero else if code = 1 then .plus else .minus

theorem Level.ofCode?_eq {code : Nat} (h : code < 4) :
    Level.ofCode? code = if code = 2 then none else some (levelOfCode code) := by
  have hall : ∀ code < 4, Level.ofCode? code = if code = 2 then none else some (levelOfCode code) := by decide
  exact hall code h

theorem levelOfCode_code (l : Level) : levelOfCode l.code = l := by cases l <;> rfl

theorem levelCodeAt_lt (levels : List Byte) (i : Nat) : levelCodeAt levels i < 4 := Nat.mod_lt _ (by decide)

/-- One more step: code 10 fails, and any other gives its level. -/
theorem parseLevels_succ (levels : List Byte) (n i : Nat) :
    parseLevels levels (n + 1) i
      = if levelCodeAt levels i = 2 then none
        else (parseLevels levels n (i + 1)).map (levelOfCode (levelCodeAt levels i) :: ·) := by
  rw [parseLevels, Level.ofCode?_eq (levelCodeAt_lt _ _)]
  by_cases h : levelCodeAt levels i = 2
  · rw [if_pos h, if_pos h]
  · rw [if_neg h, if_neg h]
    cases parseLevels levels n (i + 1) <;> rfl

/-- The steps read give the levels, where none of them has code 10. -/
theorem parseLevels_some {levels : List Byte} {n i : Nat}
    (h : ∀ j, i ≤ j → j < i + n → levelCodeAt levels j ≠ 2) :
    parseLevels levels n i = some ((List.range' i n).map fun j => levelOfCode (levelCodeAt levels j)) := by
  induction n generalizing i with
  | zero => rfl
  | succ n ih =>
    rw [parseLevels_succ, if_neg (h i le_rfl (by omega)), ih fun j hj hj' => h j (by omega) (by omega)]
    rfl

/-- A step read with code 10 fails (R127). -/
theorem parseLevels_none {levels : List Byte} {n i j : Nat} (hi : i ≤ j) (hj : j < i + n)
    (h : levelCodeAt levels j = 2) : parseLevels levels n i = none := by
  induction n generalizing i with
  | zero => omega
  | succ n ih =>
    rw [parseLevels_succ]
    split
    next => rfl
    next hne =>
      have hlater : i ≠ j := fun e => hne (e ▸ h)
      rw [ih (by omega) (by omega)]
      rfl

/-! ### The characters of a pattern (R192, R193) -/

theorem patternCodeAt_le (levels : List Level) (i : Nat) : patternCodeAt levels i ≤ 3 := by
  unfold patternCodeAt
  split
  next l _ => cases l <;> decide
  next => decide

/-- The level byte of a step holds its code. -/
theorem levelCodeAt_patternByte (levels : List Level) {i : Nat} (hi : i < 32) :
    levelCodeAt ((List.range 8).map (patternByte levels)) i = patternCodeAt levels i := by
  obtain ⟨k, r, hr, rfl⟩ : ∃ k r, r < 4 ∧ i = 4 * k + r := ⟨i / 4, i % 4, by omega, by omega⟩
  have hbyte : ((List.range 8).map (patternByte levels))[k]? = some (patternByte levels k) := by
    rw [List.getElem?_map, List.getElem?_range (by omega)]
    rfl
  have h0 := patternCodeAt_le levels (4 * k)
  have h1 := patternCodeAt_le levels (4 * k + 1)
  have h2 := patternCodeAt_le levels (4 * k + 2)
  have h3 := patternCodeAt_le levels (4 * k + 3)
  rw [levelCodeAt, show (4 * k + r) / 4 = k by omega, show (4 * k + r) % 4 = r by omega, hbyte, Option.getD_some,
    patternByte, toNat_byte_of_lt (by omega)]
  match r, hr with
  | 0, _ => rw [Nat.add_zero (4 * k)]; omega
  | 1, _ => omega
  | 2, _ => omega
  | 3, _ => omega

/-- The levels of a pattern are read back from its level bytes. -/
theorem parseLevels_patternByte {levels : List Level} (hlen : levels.length ≤ 32) :
    parseLevels ((List.range 8).map (patternByte levels)) levels.length 0 = some levels := by
  have hcode : ∀ j (hj : j < levels.length),
      levelCodeAt ((List.range 8).map (patternByte levels)) j = levels[j].code := fun j hj => by
    rw [levelCodeAt_patternByte levels (by omega), patternCodeAt, List.getElem?_eq_getElem hj]
  have hread : ∀ l : Level, l.code ≠ 2 := fun l => by cases l <;> decide
  rw [parseLevels_some fun j _ hj => by rw [hcode j (by omega)]; exact hread _, ← List.range_eq_range']
  congr 1
  refine List.ext_getElem (by simp) fun j _ hj => ?_
  rw [List.getElem_map, List.getElem_range, hcode j hj, levelOfCode_code]

/-! ### The directive (R127, R128) -/

theorem State.reply_loadPattern (t : State) (n hold a1 a0 t1 t0 target : Byte) {ls : List Byte} (hls : ls.length = 8) :
    t.reply 2 (n :: ls ++ [hold, a1, a0, t1, t0, target])
      = t.doLoadPattern n.toNat ls hold.toNat (u16 a1 a0) (u16 t1 t0) target := by
  match ls, hls with
  | [_, _, _, _, _, _, _, _], _ => rfl

/-- The pattern that these arguments give, clamped (R128). -/
def clampedPattern (levels : List Level) (hold amplitude tolerance : Nat) (target : Byte) : Pattern :=
  { levels := levels, hold := clampNat 1 255 hold, amplitude := clampNat 1 500 amplitude,
    tolerance := clampNat 1 1000 tolerance, target := target }

section Load

variable {s : State} {n hold amplitude tolerance : Nat} {levels : List Byte} {target : Byte}

theorem State.doLoadPattern_test (hm : s.control.mode = .test) :
    s.doLoadPattern n levels hold amplitude tolerance target = refuse .wrongMode s := if_pos hm

theorem State.doLoadPattern_count (hm : s.control.mode ≠ .test) (hn : n = 0 ∨ 32 < n) :
    s.doLoadPattern n levels hold amplitude tolerance target = refuse .badValue s := (if_neg hm).trans (if_pos hn)

theorem State.doLoadPattern_code (hm : s.control.mode ≠ .test) (h : parseLevels levels n 0 = none) :
    s.doLoadPattern n levels hold amplitude tolerance target = refuse .badValue s := by
  rw [State.doLoadPattern, if_neg hm, h]
  exact ite_self _

theorem State.doLoadPattern_stores (hm : s.control.mode ≠ .test) (hlow : 1 ≤ n) (htop : n ≤ 32) {ls : List Level}
    (h : parseLevels levels n 0 = some ls) :
    let p := clampedPattern ls hold amplitude tolerance target
    s.doLoadPattern n levels hold amplitude tolerance target
      = { outcome := if p.hold = hold ∧ p.amplitude = amplitude ∧ p.tolerance = tolerance then .done else .clamped
          data := [], node := { s with excitation := { s.excitation with pattern := some p } } } := by
  rw [State.doLoadPattern, if_neg hm, if_neg (by omega), h]
  simp only [clampedOrDone, decide_not, Bool.not_eq_true', decide_eq_false_iff_not, ite_not]
  rfl

end Load

theorem Pattern.InRange.clamped {p : Pattern} (h : p.InRange) :
    clampedPattern p.levels p.hold p.amplitude p.tolerance p.target = p := by
  obtain ⟨-, ⟨hh, hh'⟩, ⟨ha, ha'⟩, ⟨ht, ht'⟩⟩ := h
  rw [clampedPattern, clampNat_self hh hh', clampNat_self ha ha', clampNat_self ht ht']

/-- Settles O43: the reply by the mode, the step count and the codes. -/
theorem loadPatternLoads : Obligations.LoadPatternLoads := by
  constructor
  · intro s h p ht hm hp t
    have ⟨⟨hlow, htop⟩, ⟨_, hhold⟩, ⟨_, hamp⟩, ⟨_, htol⟩⟩ := hp
    have hreply := State.reply_loadPattern t (byte p.levels.length) (byte p.hold) (byte (p.amplitude / 256))
      (byte p.amplitude) (byte (p.tolerance / 256)) (byte p.tolerance) p.target
      (ls := (List.range 8).map (patternByte p.levels)) rfl
    rw [toNat_byte_of_lt (by omega), toNat_byte_of_lt (by omega), u16_be16 _ (by omega), u16_be16 _ (by omega),
      State.doLoadPattern_stores (s := t) hm hlow htop (parseLevels_patternByte htop), hp.clamped] at hreply
    simp only [and_self, if_true] at hreply
    exact exec_taken (c := .loadPattern h (patternChars p)) rfl ht hreply ht.1.1
  · intro s h n hold a1 a0 t1 t0 target ls hls ht t command refused code
    have hreply := State.reply_loadPattern t n hold a1 a0 t1 t0 target hls
    have htake : s.Takes h (n :: ls ++ [hold, a1, a0, t1, t0, target]).length := takes_of_eq ht (by simp [hls])
    have hrefused : ∀ o, t.doLoadPattern n.toNat ls hold.toNat (u16 a1 a0) (u16 t1 t0) target = refuse o t →
        refused o := fun o ho =>
      exec_taken (c := command) rfl htake (hreply.trans ho) ht.1.1
    refine ⟨fun hm => hrefused _ (State.doLoadPattern_test (s := t) hm), fun hm => ⟨fun hn => ?_, ?_, ?_⟩⟩
    · exact hrefused _ (State.doLoadPattern_count (s := t) hm hn)
    · intro i hi _ hcode
      exact hrefused _ (State.doLoadPattern_code (s := t) hm (parseLevels_none (Nat.zero_le i) (by omega) hcode))
    · intro hlow htop hcodes p kept
      have hparse := parseLevels_some (levels := ls) (n := n.toNat) (i := 0) fun j _ hj => hcodes j (by omega)
      have hp : clampedPattern ((List.range' 0 n.toNat).map fun j => levelOfCode (levelCodeAt ls j)) hold.toNat
          (u16 a1 a0) (u16 t1 t0) target = p := by
        have hhold : clampNat 1 255 hold.toNat = max 1 hold.toNat := by
          unfold clampNat
          omega
        rw [clampedPattern, hhold, u16_eq, u16_eq, ← List.range_eq_range']
        rfl
      rw [State.doLoadPattern_stores (s := t) hm hlow htop hparse, hp, u16_eq, u16_eq] at hreply
      exact exec_taken (c := command) rfl htake hreply ht.1.1

end Sys2Proof.Machine
end

section
/-! SUPPORT. The excitation unit at an evaluation in TEST, whatever the other works do around it (R133 to R135, R137,
R139, R140). -/

namespace Sys2Proof.Machine

section Test

variable {s t : State} {p : Pattern}

/-! ### The response check (R133, R134) -/

theorem State.countsResponse_iff (s : State) (p : Pattern) :
    s.countsResponse p = true ↔ p.hold / 2 ≤ s.excitation.position
      ∧ (s.tracker.state ≠ .locked ∨ (p.tolerance : Int)
        < (((s.tracker.speed : Int) - s.excitation.baseline) - p.offset s.excitation.stepIndex).natAbs) := by
  simp [State.countsResponse, Pattern.settled, responseWrong, Tracker.valid]

/-- The offset of a step by its level. -/
theorem Pattern.offset_eq (p : Pattern) (i : Nat) :
    p.offset i = match p.level i with
      | .minus => -(p.amplitude : Int)
      | .zero => 0
      | .plus => p.amplitude := by
  unfold Pattern.offset
  cases p.level i <;> simp [Level.toInt]

/-! ### The three ends of a step (R135, R140) -/

/-- Within a step the position advances. -/
theorem State.runStep_within (h : s.excitation.position + 1 ≠ p.hold) :
    s.runStep p
      = { s with excitation := { s.checkResponse p with position := s.excitation.position + 1 } } := by
  rw [State.runStep_unending h]
  exact congrArg (fun x : Excitation => { s with excitation := x }) (if_neg h)

theorem Excitation.advance_at_end (x : Excitation) (h : x.position + 1 = p.hold) :
    x.advance p = { x with position := 0, stepIndex := x.stepIndex + 1 } := if_pos h

/-- At a step's end the next step begins. -/
theorem State.runStep_next (h : s.excitation.position + 1 = p.hold)
    (hi : s.excitation.stepIndex + 1 ≠ p.levels.length) :
    s.runStep p
      = { s with excitation :=
          { s.checkResponse p with position := 0, stepIndex := s.excitation.stepIndex + 1 } } := by
  have hadv : (s.checkResponse p).advance p
      = { s.checkResponse p with position := 0, stepIndex := s.excitation.stepIndex + 1 } :=
    Excitation.advance_at_end _ h
  have hpast : ((s.checkResponse p).advance p).past p = false := by simp [hadv, Excitation.past, hi]
  unfold State.runStep
  rw [if_neg (by simp [hpast]), hadv]

/-- Past the last step the test ends in REPORT with its verdict. -/
theorem State.runStep_last (h : s.excitation.position + 1 = p.hold)
    (hi : s.excitation.stepIndex + 1 = p.levels.length) :
    (s.runStep p).control.mode = .report
      ∧ (s.runStep p).excitation =
        { s.checkResponse p with
          offset := 0, sentStep := 0, sentLevel := .zero, position := 0, stepIndex := p.levels.length,
          running := false
          verdict := some
            { outcome := if (s.checkResponse p).count ≤ p.targetCount then .pass else .fail,
              count := (s.checkResponse p).count, steps := p.levels.length, baseline := s.excitation.baseline } } := by
  have hadv : (s.checkResponse p).advance p
      = { s.checkResponse p with position := 0, stepIndex := p.levels.length } := by
    rw [← hi]
    exact Excitation.advance_at_end _ h
  have hpast : ((s.checkResponse p).advance p).past p = true := by simp [hadv, Excitation.past]
  unfold State.runStep
  rw [if_pos hpast, hadv]
  exact ⟨by simp, by rw [State.changeMode_excitation]; rfl⟩

theorem State.runStep_limitPosted (s : State) (p : Pattern) :
    (s.runStep p).excitation.limitPosted = s.excitation.limitPosted := by
  by_cases h : s.excitation.position + 1 = p.hold
  · by_cases hi : s.excitation.stepIndex + 1 = p.levels.length
    · rw [(State.runStep_last h hi).2]
      rfl
    · rw [State.runStep_next h hi]
      rfl
  · rw [State.runStep_within h]
    rfl

/-! ### TEST_LIMIT (R139) -/

/-- In WARN class TEST_LIMIT, sent where it is due, marks itself sent and touches neither mode nor test. -/
theorem State.excitationWork_test (hm : s.control.mode = .test) (hp : s.excitation.pattern = some p)
    (hwarn : s.fault.classMap &&& 0x3780 = 0) :
    s.excitationWork.control.mode = (s.runStep p).control.mode
      ∧ s.excitationWork.excitation
        = { (s.runStep p).excitation with limitPosted := s.excitation.limitPosted || s.limitDue p }
      ∧ s.excitationWork.fault.Told 12 (s.limitDue p = true) s.fault := by
  have hwork : s.excitationWork
      = if s.limitDue p then
          State.takeNotice
            { s.runStep p with excitation := { (s.runStep p).excitation with limitPosted := true } }
            (notice .testLimit 0)
        else s.runStep p := by
    unfold State.excitationWork
    rw [hm, hp]
  have hfault : (s.runStep p).fault = s.fault := by simp
  rw [hwork]
  cases hdue : s.limitDue p with
  | false =>
    rw [if_neg Bool.false_ne_true, Bool.or_false, ← s.runStep_limitPosted p, hfault]
    exact ⟨rfl, rfl, ⟨fun h => absurd h Bool.false_ne_true, fun _ => rfl⟩⟩
  | true =>
    rw [if_pos rfl, Bool.or_true]
    generalize hu : ({ s.runStep p with
      excitation := { (s.runStep p).excitation with limitPosted := true } } : State) = u
    have hf : u.fault = s.fault := by rw [← hu]; exact hfault
    obtain ⟨hcontrol, -, hexcitation⟩ :=
      (State.Notifies.single u (notice .testLimit 0) (by decide)).undropped (.inl (by rwa [hf]))
    have htold : (u.takeNotice (notice .testLimit 0)).fault.Told 12 True u.fault :=
      u.told_takeNotices (a := []) (b := []) (n := notice .testLimit 0) (c := True) nofun nofun rfl
    rw [hcontrol, hexcitation, ← hf, ← hu]
    exact ⟨rfl, rfl, hu ▸ htold.congr (by simp) (.refl _ _) (.refl _ _) rfl⟩

/-! ### The other works -/

/-- What a test looks at stands in `t` as in `s`, and no TEST_LIMIT has been sent. -/
structure State.SparesTest (t s : State) : Prop where
  mode : t.control.mode = s.control.mode
  excitation : t.excitation = s.excitation
  tracker : t.tracker = s.tracker
  classMap : t.fault.classMap = s.fault.classMap
  detectMask : t.fault.detectMask = s.fault.detectMask
  limit : t.fault.Spares 12 s.fault

theorem State.SparesTest.refl (s : State) : s.SparesTest s := ⟨rfl, rfl, rfl, rfl, rfl, .refl _ _⟩

theorem State.SparesTest.trans {u : State} (h : u.SparesTest t) (h' : t.SparesTest s) : u.SparesTest s :=
  ⟨h.mode.trans h'.mode, h.excitation.trans h'.excitation, h.tracker.trans h'.tracker, h.classMap.trans h'.classMap,
    h.detectMask.trans h'.detectMask, h.limit.trans h'.limit⟩

/-- Notices of other kinds. -/
theorem State.spares_limit_takeNotices (s : State) {ns : List Notice} (h : ∀ n ∈ ns, n.kind ≠ .testLimit) :
    (s.takeNotices ns).fault.Spares 12 s.fault := by
  have hplace : ∀ k : Kind, k.number - 1 = 12 → k = .testLimit := fun k => by cases k <;> decide
  exact s.spares_takeNotices fun n hn hk => absurd (hplace _ hk) (h n hn)

/-- All that the observer's work does to the fault unit is to give a verdict (R150, R152). -/
theorem State.observe_fault (s : State) :
    s.observe.fault = s.fault ∨ ∃ (t : State) (k : Nat), t.fault = s.fault ∧ s.observe = t.giveVerdict k := by
  unfold State.observe
  split
  · exact .inl rfl
  · exact .inl (by split <;> simp)
  · exact .inl (by (repeat' split) <;> simp)
  · exact .inl (by split <;> simp)
  · exact .inr ⟨_, _, by simp, rfl⟩
  · exact .inr ⟨_, _, by simp, rfl⟩

theorem State.spares_limit_observe (s : State) : s.observe.fault.Spares 12 s.fault := by
  rcases s.observe_fault with h | ⟨t, k, hf, h⟩
  · exact .of_eq h
  · rw [h, ← hf]
    unfold State.giveVerdict
    dsimp only
    split
    · exact (State.spares_limit_takeNotices _ (by simp [notice])).trans (.of_eq (by simp))
    · exact .of_eq (by simp)

theorem State.spares_limit_work (s : State) {w : EvalWork} (hw : w ≠ .excitationUnit) :
    (s.work .listen w).fault.Spares 12 s.fault := by
  cases w with
  | excitationUnit => exact absurd rfl hw
  | accumulatorClose => exact .refl _ _
  | fadeStep => exact .of_eq (by simp [State.work])
  | staleNotice => exact .of_eq (by simp [State.work, State.staleNotice, Mode.hasAuthority])
  | balanceEngine =>
    have hother : .testLimit ∉ shareKinds := by decide
    show s.balanceWork.fault.Spares 12 s.fault
    unfold State.balanceWork
    split
    · exact State.spares_limit_takeNotices _ fun n hn e => hother (e ▸ s.balanceNotices_kind hn)
    · exact .refl _ _
  | drawVerifier =>
    show s.drawWork.fault.Spares 12 s.fault
    unfold State.drawWork
    dsimp only
    split
    · split
      · exact State.spares_limit_takeNotices _ (by simp [notice])
      · exact .refl _ _
    · exact .refl _ _
  | couplingObserver =>
    show s.observeEvaluation.fault.Spares 12 s.fault
    unfold State.observeEvaluation
    split
    · exact s.spares_limit_observe
    · exact .refl _ _

/-- With the works' kinds in WARN class, every work but the excitation unit's leaves a test alone, and a node that is
not in TRIM in its mode; the stale notice apart. -/
theorem State.sparesTest_work (hm : s.control.mode.isTrim = false) (hwarn : s.fault.classMap &&& 0x3780 = 0)
    {w : EvalWork} (hw : w ≠ .excitationUnit) : (s.work .listen w).SparesTest s := by
  suffices h : (s.work .listen w).control.mode = s.control.mode ∧ (s.work .listen w).excitation = s.excitation from
    ⟨h.1, h.2, by simp, by simp, by simp, s.spares_limit_work hw⟩
  by_cases hn : w = .staleNotice
  · subst hn
    simp [State.work, State.staleNotice, Mode.hasAuthority]
  · obtain ⟨u, hc, -, hf, hsame, hnote⟩ := s.work_core .listen hn fun e => absurd e hw
    obtain ⟨hc', -, hx'⟩ := hnote.undropped (.inl (by rwa [hf]))
    refine ⟨?_, hx'.trans (hsame hw)⟩
    rw [hc', hc]
    cases w with
    | fadeStep =>
      have hfade : s.control.mode ≠ .trim .fadeIn ∧ s.control.mode ≠ .trim .fadeOut := by
        constructor <;> intro e <;> simp [e, Mode.isTrim] at hm
      show s.fadeStep.control.mode = _
      rw [State.fadeStep_control, ModeControl.faded_other hfade.1 hfade.2]
    | balanceEngine => exact congrArg ModeControl.mode s.engaged_frame.1
    | _ => rfl

/-! ### The evaluation -/

/-- What one work brings about, and every other keeps, holds after the works. -/
theorem State.works_reach {P Q : State → Prop} (began : Mode) (order : List EvalWork) (w : EvalWork) (h : P s)
    (before : ∀ (v : EvalWork) (t : State), v ≠ w → P t → P (t.work began v))
    (here : ∀ t : State, P t → Q (t.work began w))
    (later : ∀ (v : EvalWork) (t : State), v ≠ w → Q t → Q (t.work began v)) :
    Q ((scheduleOf order).foldl (State.work began) s) := by
  obtain ⟨l₁, l₂, hl⟩ := List.append_of_mem (mem_scheduleOf order w)
  have hnodup := hl ▸ scheduleOf_nodup order
  have hw : w ∉ l₁ ++ l₂ := (List.nodup_cons.mp (List.nodup_middle.mp hnodup)).1
  rw [hl, List.foldl_append, List.foldl_cons]
  have h₁ := List.foldlRecOn (motive := P) l₁ (State.work began) h fun t ht v hv =>
    before v t (fun e => hw (e ▸ List.mem_append_left _ hv)) ht
  exact List.foldlRecOn (motive := Q) l₂ (State.work began) (here _ h₁) fun t ht v hv =>
    later v t (fun e => hw (e ▸ List.mem_append_right _ hv)) ht

/-- The check and advance look at the test and the tracker alone. -/
theorem State.SparesTest.runStep (h : t.SparesTest s) (p : Pattern) :
    (t.runStep p).control.mode = (s.runStep p).control.mode ∧ (t.runStep p).excitation = (s.runStep p).excitation
      ∧ t.limitDue p = s.limitDue p := by
  have hcount : t.countsResponse p = s.countsResponse p := by
    rw [State.countsResponse, h.excitation, h.tracker, State.countsResponse]
  have hcheck : t.checkResponse p = s.checkResponse p := by
    rw [State.checkResponse, h.excitation, hcount, State.checkResponse]
  refine ⟨?_, ?_, by rw [State.limitDue, h.excitation, hcount, State.limitDue]⟩
  · unfold State.runStep
    rw [hcheck]
    dsimp only
    split
    · simp
    · exact h.mode
  · unfold State.runStep
    rw [hcheck]
    dsimp only
    split
    · simp [State.endTest]
    · rfl

/-- An evaluation from `s` to `t` has done to the mode, the test and TEST_LIMIT what the excitation unit's work does on
the test that it began with. -/
structure State.Tested (t s : State) (p : Pattern) : Prop where
  mode : t.control.mode = (s.runStep p).control.mode
  excitation : t.excitation
    = { (s.runStep p).excitation with limitPosted := s.excitation.limitPosted || s.limitDue p }
  limit : t.fault.Told 12 (s.limitDue p = true) s.fault

theorem State.evaluated_test (hcalm : s.Calm) (hm : s.control.mode = .test) (hp : s.excitation.pattern = some p)
    (order : List EvalWork) : ((s.evaluated order).formReference).Tested s p := by
  have hstep : (s.runStep p).control.mode.isTrim = false := by
    unfold State.runStep
    dsimp only
    split
    · simp [Mode.isTrim]
    · simp [hm, Mode.isTrim]
  have hcount : s.countEvaluation.SparesTest s := ⟨rfl, rfl, rfl, rfl, rfl, .refl _ _⟩
  have ⟨hwarn, _⟩ := hcalm
  have hworks : (s.countEvaluation.runWorks order).Tested s p := by
    rw [State.runWorks_not_lapsing hcalm.not_lapsing]
    refine (State.works_reach (P := (·.SparesTest s))
      (Q := fun t => t.Tested s p ∧ t.fault.classMap &&& 0x3780 = 0) .listen order .excitationUnit hcount ?_ ?_ ?_).1
    · intro v t hv ht
      exact (State.sparesTest_work (by rw [ht.mode, hm]; rfl) (by rwa [ht.classMap]) hv).trans ht
    · intro t ht
      obtain ⟨hmode, hexcitation, hlimit⟩ := State.excitationWork_test (ht.mode.trans hm)
        (by rw [ht.excitation, hp]) (by rwa [ht.classMap])
      obtain ⟨hmode', hexcitation', hdue⟩ := ht.runStep p
      refine ⟨⟨hmode.trans hmode', ?_, ?_⟩, ?_⟩
      · exact hexcitation.trans (by rw [hexcitation', ht.excitation, hdue])
      · exact hlimit.congr (by rw [hdue]) ht.limit (.refl _ _) ht.detectMask
      · simpa [State.work, ht.classMap] using hwarn
    · intro v t hv ⟨ht, hclass⟩
      have hspare := State.sparesTest_work (by rw [ht.mode, hstep]) hclass hv
      refine ⟨⟨hspare.mode.trans ht.mode, hspare.excitation.trans ht.excitation, ?_⟩, by rwa [hspare.classMap]⟩
      exact ht.limit.congr .rfl (.refl _ _) hspare.limit rfl
  obtain ⟨hmode, hexcitation, hlimit⟩ := hworks
  obtain ⟨hcontrol, -, hfault⟩ := s.evaluated_formReference order
  refine ⟨?_, ?_, by rwa [hfault]⟩
  · rw [hcontrol, State.applyTrim_control_mode, hmode]
  · simpa [State.evaluated] using hexcitation

end Test

/-- Settles O25: the excitation unit's work among the others, by where the evaluation stands in its step. -/
theorem testEvaluation : Obligations.TestEvaluation := by
  intro order s p hcalm hm hp level x wrong counted count target posted after
  obtain ⟨hmode, hexcitation, hlimit⟩ := State.evaluated_test hcalm hm hp order
  have hx : p.offset s.excitation.stepIndex = x := p.offset_eq _
  have hcounted : s.countsResponse p = true ↔ counted := by
    rw [State.countsResponse_iff, hx]
  have hcheck : s.checkResponse p
      = { s.excitation with offset := x, sentStep := s.excitation.stepIndex, sentLevel := level, count := count } := by
    have hcount : s.excitation.count + (if s.countsResponse p then 1 else 0) = count := by
      simp only [hcounted, count]
      split <;> rfl
    rw [State.checkResponse, hx, hcount]
    rfl
  have hdue : s.limitDue p = true ↔ counted ∧ target < count ∧ s.excitation.limitPosted = false := by
    have hcount : counted → count = s.excitation.count + 1 := fun hc => if_pos hc
    simp only [State.limitDue, Bool.and_eq_true, Bool.not_eq_true', decide_eq_true_eq, hcounted, and_assoc]
    exact and_congr_right fun hc => by rw [hcount hc]; rfl
  have hposted : (s.excitation.limitPosted || s.limitDue p) = posted := by
    rw [Bool.eq_iff_iff, Bool.or_eq_true, hdue, Bool.or_eq_true, decide_eq_true_eq]
    cases s.excitation.limitPosted <;> simp
  rw [hposted] at hexcitation
  refine ⟨_, exec_evaluation (by simp [hm]) order, fun hlive => ?_, fun h => ?_, fun h hi => ?_, fun h hi => ?_⟩
  · split
    next hc => exact hlimit.sent (hdue.mpr hc) hlive
    next hc => exact hlimit.unsent fun ⟨hd, _⟩ => hc (hdue.mp hd)
  · rw [hmode, hexcitation, State.runStep_within h, hcheck]
    exact ⟨hm, rfl⟩
  · rw [hmode, hexcitation, State.runStep_next h hi, hcheck]
    exact ⟨hm, rfl⟩
  · obtain ⟨hreport, hended⟩ := State.runStep_last h hi
    rw [hmode, hexcitation, hended, hcheck]
    exact ⟨hreport, rfl⟩

end Sys2Proof.Machine
end

section
/-! SUPPORT. A followed test that goes on: its level transitions and its end (R146 to R149, R152 to R154). -/

namespace Sys2Proof.Machine

section Followed

variable {s : State} {k : Nat} {e : PeerEntry} {o : Slot} {f : FaultUnit}

/-- A report with the next sequence and the same shape, of an entry that is neither ABSENT nor lapsed, continues its
run (R51). -/
theorem PeerEntry.broken_eq_false_of_continues {old r : Report} (hstate : e.state ≠ .absent)
    (hpass : e.passCount ≠ 0) (hold : e.stored = some old) (hseq : r.sequence = old.sequence + 1)
    (hshape : r.shape = old.shape) : e.broken r = false := by
  have hstarts : e.starts = false := decide_eq_false fun h => h.elim hstate fun h => hpass h.2
  exact Bool.eq_false_iff.mpr fun hb => ((PeerEntry.broken_iff hstarts hold).mp hb).elim (· hseq) (· hshape)

/-! ### Transitions (R146 to R149) -/

/-- A step of the test level in the direction of this sign (R146). -/
theorem levelStep_eq_some {old new : Level} {sign : Sign}
    (h : match sign with
      | .up => old.toInt < new.toInt
      | .down => new.toInt < old.toInt) : levelStep old new = some sign := by
  unfold levelStep
  cases sign with
  | up => exact if_pos h
  | down => rw [if_neg (by omega), if_pos h]

/-- In TEST a transition is missed, whatever the slot holds (R148). -/
theorem State.told_transition_inTest (hk : 1 ≤ k ∧ k ≤ 40) (hm : s.control.mode = .test) (sign : Sign) :
    (s.told k e o f).transition k sign = s.told k e.missedOnce o f := by
  have hmode : (s.told k e o f).control.mode = .test := by simp [hm]
  rw [State.transition, if_pos hmode, State.told_countMissed hk]

/-- A transition of the peer whose observation is PENDING takes its place, with a miss (R149). -/
theorem State.told_transition_pending (hk : 1 ≤ k ∧ k ≤ 40) (hm : s.control.mode ≠ .test) (g : Sign) (n : Nat)
    (sign : Sign) :
    (s.told k e (.pending k g n) f).transition k sign
      = s.told k e.missedOnce (.pending k sign s.handler.tuning.couplingWindow) f := by
  obtain ⟨ho, -, -, hh, -⟩ := s.told_frame k e (.pending k g n) f
  have hmode : (s.told k e (.pending k g n) f).control.mode ≠ .test := by simpa using hm
  rw [State.transition, if_neg hmode, ho]
  simp only [hh, if_true, State.told_countMissed hk, State.told_slot]

/-- A transition of the peer whose observation is COUNTING becomes its successor, an earlier one being missed (R149). -/
theorem State.told_transition_counting (hk : 1 ≤ k ∧ k ≤ 40) (hm : s.control.mode ≠ .test) (g : Sign) (base : Int)
    (n : Nat) (succ : Option Sign) (final : Bool) (sign : Sign) :
    (s.told k e (.counting k g base n succ final) f).transition k sign
      = s.told k (if succ.isSome then e.missedOnce else e) (.counting k g base n (some sign) final) f := by
  obtain ⟨ho, -⟩ := s.told_frame k e (.counting k g base n succ final) f
  have hmode : (s.told k e (.counting k g base n succ final) f).control.mode ≠ .test := by simpa using hm
  rw [State.transition, if_neg hmode, ho]
  cases succ with
  | none => simp only [if_true, State.told_slot, Option.isSome, Bool.false_eq_true, if_false]
  | some earlier => simp only [if_true, State.told_countMissed hk, State.told_slot, Option.isSome]

/-- A report of a followed test that stays in TEST at another level: the entry updated, then the transition (R64,
R146). -/
theorem State.takeReport_transition (hk : 1 ≤ k ∧ k ≤ 40) {r old : Report} {sign : Sign}
    (hb : (s.peer k).broken r = false) (hold : (s.peer k).stored = some old) (ho : old.contents.mode = .test)
    (hr : r.contents.mode = .test) (hmarker : (s.peer k).marker = true)
    (hstep : levelStep old.contents.testLevel r.contents.testLevel = some sign) :
    s.takeReport k r =
      (s.told k ((s.peer k).heardAt s.image.passThreshold s.clock r) s.observation s.fault).transition k sign := by
  rw [State.takeReport_unbroken hb, hold, Option.map_some, State.observeUpdate_goesOn ho hr, State.told_peer hk,
    if_pos (by simpa using hmarker), State.levelChange, hstep]

/-- Settles O31: what the slot holds decides what the transition does. -/
theorem peerTestTransition : Obligations.PeerTestTransition := by
  intro s moment station r old sign ho hlow htop hne hr hown hstate hpass hold hseq hshape hmode hmode' hmarker hsign
    k e armed result
  have hk : 1 ≤ k ∧ k ≤ 40 := ⟨hlow, htop⟩
  have hb : (s.peer k).broken r = false :=
    PeerEntry.broken_eq_false_of_continues hstate hpass hold hseq hshape
  rw [ho.exec_report moment hlow htop hne hr hown,
    State.takeReport_transition (s := s.heard moment) hk hb hold hmode hmode' hmarker (levelStep_eq_some hsign)]
  show Host.Outcome.next ((State.told (s.heard moment) k e s.observation s.fault).transition k sign) = _
  have hresult (slot : Slot) (e' : PeerEntry) : result slot e' = State.told (s.heard moment) k e' slot s.fault := rfl
  have hother {o : Slot} (hslot : o ≠ .empty) (hp : o.peer? ≠ some k) :
      (State.told (s.heard moment) k e o s.fault).transition k sign = result o e.missedOnce :=
    (State.told_transition hk hp sign).trans (if_neg fun h => hslot h.1)
  by_cases hm : s.control.mode = .test
  · rw [if_pos hm, State.told_transition_inTest (s := s.heard moment) hk hm, hresult]
  · rw [if_neg hm]
    cases s.observation with
    | empty =>
      have hfree : Slot.peer? .empty ≠ some k := nofun
      rw [State.told_transition (s := s.heard moment) hk hfree, if_pos ⟨rfl, hm⟩]
      rfl
    | pending p g n =>
      by_cases hp : p = k
      · subst hp
        rw [State.told_transition_pending (s := s.heard moment) hk hm]
        simp only [if_true, hresult]
        rfl
      · simp only [if_neg hp]
        exact congrArg _ (hother nofun fun h => hp (Option.some.inj h))
    | counting p g base n succ final =>
      by_cases hp : p = k
      · subst hp
        rw [State.told_transition_counting (s := s.heard moment) hk hm]
        simp only [if_true, hresult]
      · simp only [if_neg hp]
        exact congrArg _ (hother nofun fun h => hp (Option.some.inj h))

/-! ### The end of a test (R152 to R154) -/

/-- At the end of a test with no observation of its peer the verdict is given at once (R152). -/
theorem State.told_testEnd_free (hk : 1 ≤ k ∧ k ≤ 40) (hp : o.peer? ≠ some k) (hw : f.warns .couplingMismatch) :
    (s.told k e o f).testEnd k
      = s.told k e.concluded o
          (if s.Disagrees e.concluded then f.warned .couplingMismatch k s.control.evaluations else f) := by
  obtain ⟨ho, -⟩ := s.told_frame k e o f
  rw [← State.told_giveVerdict hk hw, State.testEnd, ho]
  cases o with
  | empty => rfl
  | pending p g n => exact if_neg (by simpa [Slot.peer?] using hp)
  | counting p g base n succ final => exact if_neg (by simpa [Slot.peer?] using hp)

/-- Over a PENDING observation of the peer the verdict is given with a miss, the slot emptied (R152). -/
theorem State.told_testEnd_pending (hk : 1 ≤ k ∧ k ≤ 40) (hw : f.warns .couplingMismatch) (g : Sign) (n : Nat) :
    (s.told k e (.pending k g n) f).testEnd k
      = s.told k e.missedOnce.concluded .empty
          (if s.Disagrees e.missedOnce.concluded then f.warned .couplingMismatch k s.control.evaluations else f) := by
  obtain ⟨ho, -⟩ := s.told_frame k e (.pending k g n) f
  rw [← State.told_giveVerdict hk hw, State.testEnd, ho]
  simp only [if_true, State.told_countMissed hk, State.told_emptySlot]

/-- Over a COUNTING observation of the peer the final mark is set and the verdict waits (R152). -/
theorem State.told_testEnd_counting (g : Sign) (base : Int) (n : Nat) (succ : Option Sign) (final : Bool) :
    (s.told k e (.counting k g base n succ final) f).testEnd k = s.told k e (.counting k g base n succ true) f := by
  obtain ⟨ho, -⟩ := s.told_frame k e (.counting k g base n succ final) f
  rw [State.testEnd, ho]
  simp only [if_true, State.told_slot]

/-- The first report of a followed peer that no longer shows TEST: the entry updated, then the end (R64, R152). -/
theorem State.takeReport_ends (hk : 1 ≤ k ∧ k ≤ 40) {r old : Report} (hb : (s.peer k).broken r = false)
    (hold : (s.peer k).stored = some old) (ho : old.contents.mode = .test) (hr : r.contents.mode ≠ .test)
    (hmarker : (s.peer k).marker = true) :
    s.takeReport k r =
      (s.told k ((s.peer k).heardAt s.image.passThreshold s.clock r) s.observation s.fault).testEnd k := by
  rw [State.takeReport_unbroken hb, hold, Option.map_some, State.observeUpdate_ends ho hr, State.told_peer hk,
    if_pos (by simpa using hmarker)]

/-- Settles O32: what the slot holds decides whether the verdict waits. -/
theorem peerTestEnds : Obligations.PeerTestEnds := by
  intro s moment station r old ho hlow htop hne hr hown hstate hpass hold hseq hshape hmode hmode' hmarker hw
    k e verdict
  have hk : 1 ≤ k ∧ k ≤ 40 := ⟨hlow, htop⟩
  have hb : (s.peer k).broken r = false :=
    PeerEntry.broken_eq_false_of_continues hstate hpass hold hseq hshape
  rw [ho.exec_report moment hlow htop hne hr hown,
    State.takeReport_ends (s := s.heard moment) hk hb hold hmode hmode' hmarker]
  show Host.Outcome.next ((State.told (s.heard moment) k e s.observation s.fault).testEnd k) = _
  have hfree {o : Slot} (hp : o.peer? ≠ some k) :
      (State.told (s.heard moment) k e o s.fault).testEnd k = verdict o e :=
    State.told_testEnd_free hk hp hw
  cases s.observation with
  | empty => exact congrArg _ (hfree nofun)
  | pending p g n =>
    by_cases hp : p = k
    · subst hp
      simp only [if_true]
      rw [State.told_testEnd_pending (s := s.heard moment) hk hw]
      rfl
    · simp only [if_neg hp]
      exact congrArg _ (hfree fun h => hp (Option.some.inj h))
  | counting p g base n succ final =>
    by_cases hp : p = k
    · subst hp
      simp only [if_true]
      rw [State.told_testEnd_counting]
      rfl
    · simp only [if_neg hp]
      exact congrArg _ (hfree fun h => hp (Option.some.inj h))

end Followed

end Sys2Proof.Machine
end

section
/-! SUPPORT. The observation slot at an evaluation in LISTEN, REPORT or TRIM, whatever the other works do around it (R149
to R154, R156). -/

namespace Sys2Proof.Machine

/-! ### What an evaluation makes of a slot and of its peer's entry -/

/-- The slot after the observer's work, with this torque mean (R149, R150, R152). -/
def Slot.observed (o : Slot) (stale : Bool) (torque : Int) (window : Nat) : Slot :=
  match o with
  | .empty => .empty
  | .pending k sign n => if stale then .empty else .counting k sign torque n none false
  | .counting k sign base n none false =>
    if stale then .empty else if n ≤ 1 then .empty else .counting k sign base (n - 1) none false
  | .counting k _ _ _ (some next) false => if stale then .empty else .counting k next torque window none false
  | .counting _ _ _ _ _ true => .empty

/-- The entry with an observation judged, or missed over a stale torque (R150, R151). -/
def PeerEntry.assessed (e : PeerEntry) (stale : Bool) (sign : Sign) (change : Int) (threshold : Nat) : PeerEntry :=
  if stale then e.missedOnce else e.judgedOn sign change threshold

/-- The entry of the slot's peer after the observer's work, with this torque mean (R149 to R153). -/
def PeerEntry.observed (e : PeerEntry) (o : Slot) (stale : Bool) (torque : Int) (threshold : Nat) : PeerEntry :=
  match o with
  | .empty => e
  | .pending _ _ _ => if stale then e.missedOnce else e
  | .counting _ sign base n none false =>
    if stale then e.missedOnce else if n ≤ 1 then e.judgedOn sign (torque - base) threshold else e
  | .counting _ sign base _ (some _) false =>
    if stale then e.missedOnce.missedOnce else e.judgedOn sign (torque - base) threshold
  | .counting _ sign base _ successor true =>
    let judged := e.assessed stale sign (torque - base) threshold
    PeerEntry.concluded (if successor.isSome then judged.missedOnce else judged)

section Observe

variable {s t : State} {k : Nat} {e : PeerEntry} {f : FaultUnit}

/-! ### The observer's work, row by row (R150) -/

theorem State.setPeer_self (s : State) (k : Nat) : s.setPeer k (s.peer k) = s := by
  unfold State.setPeer State.peer
  split
  next hk =>
    have hsame : s.peers.setIfInBounds (k - 1) ((s.peers[k - 1]?).getD PeerEntry.atReset) = s.peers := by
      ext i hi
      by_cases h : k - 1 = i
      · subst h
        simp [hi]
      · simp [h]
    rw [hsame]
  next => rfl

theorem State.told_drive (s : State) (k : Nat) (e : PeerEntry) (o : Slot) (f : FaultUnit) :
    (s.told k e o f).drive = s.drive := by
  simp [State.told]

/-- The tally that an observation goes to, as the statements tell it (R151). -/
theorem tally_eq_judgedOn (e : PeerEntry) (change : Int) (sign : Sign) (threshold : Nat) :
    tally e change sign threshold = e.judgedOn sign change threshold := by
  have halong : change * sign.expected = match sign with
      | .up => -change
      | .down => change := by
    cases sign <;> simp [Sign.expected]
  unfold tally PeerEntry.judgedOn
  rw [halong]
  rfl

theorem State.told_judge (hk : 1 ≤ k ∧ k ≤ 40) (o : Slot) (sign : Sign) (base : Int) :
    (s.told k e o f).judge k sign base
      = s.told k (e.assessed s.drive.stale sign (s.drive.held - base) s.handler.tuning.couplingThreshold) o f := by
  obtain ⟨-, -, -, hh, -⟩ := s.told_frame k e o f
  rw [State.judge, State.told_drive, State.told_countMissed hk, State.told_peer hk, State.told_setPeer, hh,
    tally_eq_judgedOn, PeerEntry.assessed]
  split <;> rfl

/-- A PENDING observation takes its baseline, or is missed. -/
theorem State.told_observe_pending (hk : 1 ≤ k ∧ k ≤ 40) (sign : Sign) (n : Nat) :
    (s.told k e (.pending k sign n) f).observe =
      if s.drive.stale then s.told k e.missedOnce .empty f
      else s.told k e (.counting k sign s.drive.held n none false) f := by
  obtain ⟨ho, -⟩ := s.told_frame k e (.pending k sign n) f
  rw [State.observe, ho]
  simp only [State.told_countMissed hk, State.told_emptySlot, State.told_slot]
  rw [State.told_drive]

/-- A COUNTING observation counts down and is judged at 0, or is missed. -/
theorem State.told_observe_counting (hk : 1 ≤ k ∧ k ≤ 40) (sign : Sign) (base : Int) (n : Nat) :
    (s.told k e (.counting k sign base n none false) f).observe =
      if s.drive.stale then s.told k e.missedOnce .empty f
      else if n ≤ 1 then
        s.told k (e.assessed s.drive.stale sign (s.drive.held - base) s.handler.tuning.couplingThreshold) .empty f
      else s.told k e (.counting k sign base (n - 1) none false) f := by
  obtain ⟨ho, -⟩ := s.told_frame k e (.counting k sign base n none false) f
  rw [State.observe, ho]
  simp only [State.told_countMissed hk, State.told_judge hk, State.told_emptySlot, State.told_slot]
  rw [State.told_drive]

/-- An observation closed early is judged and its successor armed, or both are missed. -/
theorem State.told_observe_successor (hk : 1 ≤ k ∧ k ≤ 40) (sign next : Sign) (base : Int) (n : Nat) :
    (s.told k e (.counting k sign base n (some next) false) f).observe =
      if s.drive.stale then
        s.told k
          (e.assessed s.drive.stale sign (s.drive.held - base) s.handler.tuning.couplingThreshold).missedOnce .empty f
      else
        s.told k (e.assessed s.drive.stale sign (s.drive.held - base) s.handler.tuning.couplingThreshold)
          (.counting k next s.drive.held s.handler.tuning.couplingWindow none false) f := by
  obtain ⟨ho, -, -, hh, -⟩ := s.told_frame k e (.counting k sign base n (some next) false) f
  rw [State.observe, ho]
  simp only [hh, State.told_countMissed hk, State.told_judge hk, State.told_emptySlot, State.told_slot]
  rw [State.told_drive]

/-- An observation with the final mark is judged, its successor missed, and then the verdict given. -/
theorem State.told_observe_final (hk : 1 ≤ k ∧ k ≤ 40) (sign : Sign) (base : Int) (n : Nat)
    (successor : Option Sign) {judged : PeerEntry}
    (hj : e.assessed s.drive.stale sign (s.drive.held - base) s.handler.tuning.couplingThreshold = judged) :
    (s.told k e (.counting k sign base n successor true) f).observe =
      (s.told k (if successor.isSome then judged.missedOnce else judged) .empty f).giveVerdict k := by
  obtain ⟨ho, -⟩ := s.told_frame k e (.counting k sign base n successor true) f
  rw [State.observe, ho]
  cases successor with
  | none => simp only [State.told_judge hk, hj, State.told_emptySlot, Option.isSome, Bool.false_eq_true, if_false]
  | some next =>
    simp only [State.told_judge hk, hj, State.told_countMissed hk, State.told_emptySlot, Option.isSome, if_true]

/-! ### The observer's work as a whole -/

/-- The node `t` comes of `s` with this entry of peer k and this slot, the other entries as they were, and
COUPLING_MISMATCH sent under this condition. -/
structure State.Observes (t s : State) (k : Nat) (e : PeerEntry) (o : Slot) (sent : Prop) : Prop where
  entry : t.peer k = e
  others : ∀ j, j ≠ k → t.peer j = s.peer j
  slot : t.observation = o
  mismatch : t.fault.Told 13 sent s.fault

/-- With no verdict given, nothing is sent. -/
theorem State.observes_told (hk : 1 ≤ k ∧ k ≤ 40) (s : State) (e : PeerEntry) (o : Slot) :
    (s.told k e o s.fault).Observes s k e o False := by
  refine ⟨State.told_peer hk, fun j hj => ?_, ?_, ⟨nofun, fun _ => ?_⟩⟩
  · rw [State.told, State.peer_setPeer, if_neg fun h => hj h.1]
    rfl
  · simp
  · simp

/-- A verdict given sends COUPLING_MISMATCH where it contradicts the groups, whatever the kind's class. -/
theorem State.observes_giveVerdict (hk : 1 ≤ k ∧ k ≤ 40) (s : State) (e : PeerEntry) (o : Slot) :
    ((s.told k e o s.fault).giveVerdict k).Observes s k e.concluded o (s.Disagrees e.concluded) := by
  have hgiven : (s.told k e o s.fault).giveVerdict k =
      if s.Disagrees e.concluded then
        (s.told k e.concluded o s.fault).takeNotice (notice .couplingMismatch k)
      else s.told k e.concluded o s.fault := by
    unfold State.giveVerdict
    simp only [State.told_peer hk, State.told_setPeer, State.mismatch_iff s hk, ← PeerEntry.concluded_eq]
  obtain ⟨hentry, hothers, hslot, hnone⟩ := State.observes_told hk s e.concluded o
  rw [hgiven]
  split
  next hd =>
    generalize hu : s.told k e.concluded o s.fault = u at *
    have hfault : u.fault = s.fault := by rw [← hu]; simp
    have htold : (u.takeNotice (notice .couplingMismatch k)).fault.Told 13 True u.fault :=
      u.told_takeNotices (a := []) (b := []) (n := notice .couplingMismatch k) (c := True) nofun nofun rfl
    refine ⟨?_, fun j hj => ?_, ?_, ?_⟩
    · rw [State.takeNotice_peer, hentry]
    · rw [State.takeNotice_peer, hothers j hj]
    · simpa using hslot
    · exact htold.congr (by simp [hd]) (.of_eq hfault) (.refl _ _) (by rw [hfault])
  next hd => exact ⟨hentry, hothers, hslot, hnone.congr (by simp [hd]) (.refl _ _) (.refl _ _) rfl⟩

/-- The entry of the slot's peer after the observer's work with this drive link. -/
def State.observedEntry (s : State) (d : DriveLink) (k : Nat) : PeerEntry :=
  (s.peer k).observed s.observation d.stale d.held s.handler.tuning.couplingThreshold

/-- The slot after the observer's work with this drive link. -/
def State.observedSlot (s : State) (d : DriveLink) : Slot :=
  s.observation.observed d.stale d.held s.handler.tuning.couplingWindow

/-- COUPLING_MISMATCH is due at the observer's work with this drive link: the final mark is set, and the verdict
contradicts the groups. -/
abbrev State.MismatchDue (s : State) (d : DriveLink) (k : Nat) : Prop :=
  s.observation.finalFor k = true ∧ s.Disagrees (s.observedEntry d k)

/-- The observer's work, over an observation of peer k. -/
theorem State.observe_observes (hk : 1 ≤ k ∧ k ≤ 40) (ho : s.observation.peer? = some k) :
    s.observe.Observes s k (s.observedEntry s.drive k) (s.observedSlot s.drive) (s.MismatchDue s.drive k) := by
  have hself : s = s.told k (s.peer k) s.observation s.fault := (State.setPeer_self s k).symm
  have quiet {e : PeerEntry} {o : Slot} (hwork : s.observe = s.told k e o s.fault)
      (hfinal : s.observation.finalFor k = false) : s.observe.Observes s k e o (s.MismatchDue s.drive k) := by
    obtain ⟨hentry, hothers, hslot, hnone⟩ := State.observes_told hk s e o
    rw [hwork]
    exact ⟨hentry, hothers, hslot, hnone.congr (by simp [State.MismatchDue, hfinal]) (.refl _ _) (.refl _ _) rfl⟩
  cases hobs : s.observation with
  | empty => simp [hobs, Slot.peer?] at ho
  | pending p sign n =>
    obtain rfl : p = k := by simpa [hobs, Slot.peer?] using ho
    rw [hobs] at hself
    refine quiet ?_ (by rw [hobs]; rfl)
    rw [congrArg State.observe hself, State.told_observe_pending hk, State.observedEntry, State.observedSlot, hobs]
    simp only [PeerEntry.observed, Slot.observed]
    split <;> rfl
  | counting p sign base n successor final =>
    obtain rfl : p = k := by simpa [hobs, Slot.peer?] using ho
    rw [hobs] at hself
    match successor, final with
    | none, false =>
      refine quiet ?_ (by rw [hobs]; simp [Slot.finalFor])
      rw [congrArg State.observe hself, State.told_observe_counting hk, State.observedEntry, State.observedSlot, hobs]
      simp only [PeerEntry.observed, Slot.observed, PeerEntry.assessed]
      split
      · rfl
      · split <;> rfl
    | some next, false =>
      refine quiet ?_ (by rw [hobs]; simp [Slot.finalFor])
      rw [congrArg State.observe hself, State.told_observe_successor hk, State.observedEntry, State.observedSlot, hobs]
      simp only [PeerEntry.observed, Slot.observed, PeerEntry.assessed]
      split <;> rfl
    | successor, true =>
      obtain ⟨e, hentry, hwork⟩ : ∃ e : PeerEntry, s.observedEntry s.drive p = e.concluded
          ∧ s.observe = (s.told p e .empty s.fault).giveVerdict p := by
        refine ⟨_, ?_, (congrArg State.observe hself).trans (State.told_observe_final hk sign base n successor rfl)⟩
        rw [State.observedEntry, hobs]
        cases successor <;> rfl
      have hslot : s.observedSlot s.drive = .empty := by
        rw [State.observedSlot, hobs]
        cases successor <;> rfl
      have hfinal : s.observation.finalFor p = true := by rw [hobs]; simp [Slot.finalFor]
      obtain ⟨hpeer, hothers, hempty, hsent⟩ := State.observes_giveVerdict hk s e .empty
      rw [hwork, hslot]
      rw [← hentry] at hpeer hsent
      exact ⟨hpeer, hothers, hempty, hsent.congr (by simp [State.MismatchDue, hfinal]) (.refl _ _) (.refl _ _) rfl⟩

end Observe

end Sys2Proof.Machine
end

section
/-! SUPPORT. The observer's work among the other works of an evaluation (R22, R95, R150, R154). -/

namespace Sys2Proof.Machine

section Works

variable {s t : State} {k : Nat}

/-! ### The other works -/

/-- What the observer looks at besides the torque mean stands in `t` as in `s`, no COUPLING_MISMATCH has been sent, and
the observer is still at work. -/
structure State.SparesObserver (t s : State) : Prop where
  startUnit : t.startUnit = s.startUnit
  handler : t.handler = s.handler
  peers : t.peers = s.peers
  observation : t.observation = s.observation
  detectMask : t.fault.detectMask = s.fault.detectMask
  mismatch : t.fault.Spares 13 s.fault
  lineOn : t.control.mode.lineOn = s.control.mode.lineOn
  test : t.control.mode = .test → s.control.mode = .test

theorem State.SparesObserver.refl (s : State) : s.SparesObserver s := ⟨rfl, rfl, rfl, rfl, rfl, .refl _ _, rfl, id⟩

theorem State.SparesObserver.trans {u : State} (h : u.SparesObserver t) (h' : t.SparesObserver s) :
    u.SparesObserver s :=
  ⟨h.startUnit.trans h'.startUnit, h.handler.trans h'.handler, h.peers.trans h'.peers,
    h.observation.trans h'.observation, h.detectMask.trans h'.detectMask, h.mismatch.trans h'.mismatch,
    h.lineOn.trans h'.lineOn, fun ht => h'.test (h.test ht)⟩

theorem State.peer_of_peers (h : t.peers = s.peers) (j : Nat) : t.peer j = s.peer j := by
  rw [State.peer, h, State.peer]

/-- Notices of other kinds, after what leaves the fault unit alone. -/
theorem State.spares_mismatch_takeNotices (hf : t.fault = s.fault) {ns : List Notice}
    (h : ∀ n ∈ ns, n.kind ≠ .couplingMismatch) : (t.takeNotices ns).fault.Spares 13 s.fault := by
  have hplace : ∀ k : Kind, k.number - 1 = 13 → k = .couplingMismatch := fun k => by cases k <;> decide
  rw [← hf]
  exact t.spares_takeNotices fun n hn hk => absurd (hplace _ hk) (h n hn)

/-- No work besides the observer's sends COUPLING_MISMATCH. -/
theorem State.spares_mismatch_work (began : Mode) (s : State) {w : EvalWork} (hw : w ≠ .couplingObserver) :
    (s.work began w).fault.Spares 13 s.fault := by
  cases w with
  | couplingObserver => exact absurd rfl hw
  | accumulatorClose => exact .refl _ _
  | fadeStep => exact .of_eq (by simp [State.work])
  | staleNotice =>
    show (s.staleNotice began).fault.Spares 13 s.fault
    unfold State.staleNotice
    split
    · exact State.spares_mismatch_takeNotices rfl (by simp)
    · exact .refl _ _
  | balanceEngine =>
    have hother : .couplingMismatch ∉ shareKinds := by decide
    show s.balanceWork.fault.Spares 13 s.fault
    unfold State.balanceWork
    split
    · exact State.spares_mismatch_takeNotices rfl fun n hn e => hother (e ▸ s.balanceNotices_kind hn)
    · exact .refl _ _
  | drawVerifier =>
    show s.drawWork.fault.Spares 13 s.fault
    unfold State.drawWork
    dsimp only
    split
    · split
      · exact State.spares_mismatch_takeNotices rfl (by simp [notice])
      · exact .refl _ _
    · exact .refl _ _
  | excitationUnit =>
    show s.excitationWork.fault.Spares 13 s.fault
    unfold State.excitationWork
    split
    · dsimp only
      split
      · exact State.spares_mismatch_takeNotices (by simp) (by simp [notice])
      · exact .of_eq (by simp)
    · exact .refl _ _

/-- Every work but the observer's. -/
theorem State.sparesObserver_work (began : Mode) (s : State) {w : EvalWork} (hw : w ≠ .couplingObserver) :
    (s.work began w).SparesObserver s := by
  have hkept : (s.work began w).peers = s.peers ∧ (s.work began w).observation = s.observation := by
    cases w with
    | couplingObserver => exact absurd rfl hw
    | accumulatorClose => exact ⟨rfl, rfl⟩
    | _ => simp [State.work]
  obtain ⟨hpeers, hslot⟩ := hkept
  exact ⟨by simp, by simp, hpeers, hslot, by simp, s.spares_mismatch_work began hw,
    (s.tableAgrees_work began w).lineOn, (s.moves_work began w).inTest⟩

/-! ### The observer's work among them -/

theorem State.SparesObserver.disagrees_iff (h : t.SparesObserver s) (e : PeerEntry) :
    t.Disagrees e ↔ s.Disagrees e := by
  have himage : t.image = s.image := by rw [State.image, h.startUnit, State.image]
  unfold State.Disagrees
  rw [himage]

/-- The observer's work in a node that has what it looks at as in `s`, with this torque mean. -/
theorem State.SparesObserver.observes {d : DriveLink} (h : t.SparesObserver s) (hd : t.DriveIs d)
    (hk : 1 ≤ k ∧ k ≤ 40) (hon : s.control.mode.lineOn = true) (hm : s.control.mode ≠ .test)
    (ho : s.observation.peer? = some k) :
    t.observeEvaluation.Observes s k (s.observedEntry d k)
      (s.observedSlot d) (s.MismatchDue d k) := by
  have hwork : t.observeEvaluation = t.observe :=
    if_pos ⟨h.lineOn.trans hon, fun ht => hm (h.test ht)⟩
  obtain ⟨hstale, hheld⟩ : t.drive.stale = d.stale ∧ t.drive.held = d.held := by
    rw [hd]
    exact ⟨rfl, rfl⟩
  have hentry : t.observedEntry t.drive k = s.observedEntry d k := by
    simp only [State.observedEntry, State.peer, h.peers, h.observation, h.handler, hstale, hheld]
  have hslot : t.observedSlot t.drive = s.observedSlot d := by
    simp only [State.observedSlot, h.observation, h.handler, hstale, hheld]
  have hdue : t.MismatchDue t.drive k ↔ s.MismatchDue d k := by
    unfold State.MismatchDue
    rw [h.observation, hentry, h.disagrees_iff]
  obtain ⟨hpeer, hothers, hempty, hsent⟩ := State.observe_observes hk (h.observation ▸ ho)
  rw [hwork, ← hentry, ← hslot]
  exact ⟨hpeer, fun j hj => (hothers j hj).trans (State.peer_of_peers h.peers j), hempty,
    hsent.congr hdue h.mismatch (.refl _ _) h.detectMask⟩

theorem State.Observes.of_spares {u : State} {e : PeerEntry} {o : Slot} {sent : Prop} (h : t.Observes s k e o sent)
    (hpeers : u.peers = t.peers) (hslot : u.observation = t.observation) (hfault : u.fault.Spares 13 t.fault) :
    u.Observes s k e o sent :=
  ⟨(State.peer_of_peers hpeers k).trans h.entry, fun j hj => (State.peer_of_peers hpeers j).trans (h.others j hj),
    hslot.trans h.slot, h.mismatch.congr .rfl (.refl _ _) hfault rfl⟩

/-- The observer works once, after the close, whatever the order of the works. -/
theorem State.runWorks_observes (hk : 1 ≤ k ∧ k ≤ 40) (hon : s.control.mode.lineOn = true)
    (hm : s.control.mode ≠ .test) (ho : s.observation.peer? = some k) (order : List EvalWork) :
    (s.runWorks order).Observes s k (s.observedEntry s.drive.closed k)
      (s.observedSlot s.drive.closed)
      (s.MismatchDue s.drive.closed k) := by
  obtain ⟨-, -, hab⟩ := scheduleOf_before order
  refine State.runWorks_reach_both (P := fun t => t.SparesObserver s ∧ t.DriveIs s.drive)
    (Q := fun t => t.SparesObserver s ∧ t.DriveIs s.drive.closed) (R := fun t => t.Observes s k _ _ _) hab
    ⟨.refl s, s.driveIs_self⟩ ?_ ?_ ?_ ?_ ?_
  · exact fun v t hc hv ⟨ht, hd⟩ => ⟨(t.sparesObserver_work _ hv).trans ht, hd.of_drive (t.work_drive _ hc)⟩
  · exact fun t ⟨ht, hd⟩ => ⟨(t.sparesObserver_work _ (w := .accumulatorClose) nofun).trans ht, hd.close⟩
  · exact fun v t hc hv ⟨ht, hd⟩ => ⟨(t.sparesObserver_work _ hv).trans ht, hd.of_drive (t.work_drive _ hc)⟩
  · exact fun t ⟨ht, hd⟩ => ht.observes hd hk hon hm ho
  · intro v t _ hv ht
    have hspare := t.sparesObserver_work s.control.mode hv
    exact ht.of_spares hspare.peers hspare.observation hspare.mismatch

/-- What follows the works leaves the table, the slot and the fault unit. -/
theorem State.evaluated_observes (hk : 1 ≤ k ∧ k ≤ 40) (hon : s.control.mode.lineOn = true)
    (hm : s.control.mode ≠ .test) (ho : s.observation.peer? = some k) (order : List EvalWork) :
    ((s.evaluated order).formReference).Observes s k (s.observedEntry s.drive.closed k)
      (s.observedSlot s.drive.closed)
      (s.MismatchDue s.drive.closed k) := by
  have hworks : (s.countEvaluation.runWorks order).Observes s k _ _ _ :=
    have ⟨hentry, hothers, hslot, hsent⟩ := State.runWorks_observes (s := s.countEvaluation) hk hon hm ho order
    ⟨hentry, hothers, hslot, hsent⟩
  exact hworks.of_spares (by simp [State.evaluated]) (by simp [State.evaluated]) (.of_eq (by simp [State.evaluated]))

/-! ### The statement -/

/-- The closed torque mean: stale with no frame since the close before, the mean of the frames otherwise (R22). -/
theorem DriveLink.closed_stale (d : DriveLink) :
    d.closed.stale = decide (d.count = 0) ∧ (d.count ≠ 0 → d.closed.held = d.sum.tdiv d.count) := by
  obtain ⟨-, -, hmean, hempty⟩ := d.closed_spec
  by_cases h : d.count = 0
  · refine ⟨?_, fun hn => absurd h hn⟩
    rw [DriveLink.stale, (hempty h).2]
    simp [h]
  · obtain ⟨hheld, hrun⟩ := hmean (by omega)
    refine ⟨?_, fun _ => hheld⟩
    rw [DriveLink.stale, hrun]
    simp [h]

/-- Over a stale torque the mean is nothing to the observer. -/
theorem PeerEntry.observed_stale (e : PeerEntry) (o : Slot) (q q' : Int) (θ : Nat) :
    e.observed o true q θ = e.observed o true q' θ := by
  unfold PeerEntry.observed PeerEntry.assessed
  split <;> rfl

theorem Slot.observed_stale (o : Slot) (q q' : Int) (window : Nat) :
    o.observed true q window = o.observed true q' window := by
  unfold Slot.observed
  split <;> rfl

/-- The entry and the slot by the mean of the frames taken since the close before. -/
theorem State.observed_closed (s : State) (k : Nat) :
    s.observedEntry s.drive.closed k
        = (s.peer k).observed s.observation (decide (s.drive.count = 0)) (s.drive.sum.tdiv s.drive.count)
            s.handler.tuning.couplingThreshold
      ∧ s.observedSlot s.drive.closed
        = s.observation.observed (decide (s.drive.count = 0)) (s.drive.sum.tdiv s.drive.count)
            s.handler.tuning.couplingWindow := by
  obtain ⟨hstale, hheld⟩ := s.drive.closed_stale
  unfold State.observedEntry State.observedSlot
  rw [hstale]
  by_cases h : s.drive.count = 0
  · rw [decide_eq_true h]
    exact ⟨PeerEntry.observed_stale _ _ _ _ _, Slot.observed_stale _ _ _ _⟩
  · rw [hheld h]
    exact ⟨rfl, rfl⟩

theorem Slot.exists_of_finalFor {o : Slot} (h : o.finalFor k = true) :
    ∃ sign base n successor, o = .counting k sign base n successor true := by
  cases o with
  | empty => cases h
  | pending p sign n => cases h
  | counting p sign base n successor final =>
    obtain ⟨rfl, rfl⟩ : p = k ∧ final = true := by simpa [Slot.finalFor] using h
    exact ⟨sign, base, n, successor, rfl⟩

/-- Two values chosen by one condition, told case by case. -/
theorem and_of_eq_ite {α β : Type} {c : Prop} [Decidable c] {a x y : α} {b u v : β} (ha : a = if c then x else y)
    (hb : b = if c then u else v) : if c then a = x ∧ b = u else a = y ∧ b = v := by
  split
  next h => exact ⟨ha.trans (if_pos h), hb.trans (if_pos h)⟩
  next h => exact ⟨ha.trans (if_neg h), hb.trans (if_neg h)⟩

theorem station_range (hk : k ∈ stations) : 1 ≤ k ∧ k ≤ 40 := by
  simpa [stations, List.mem_range'_1, Nat.lt_succ_iff] using hk

end Works

/-- Settles O26: the observer's work among the others, by what the slot held. -/
theorem observationAtEvaluation : Obligations.ObservationAtEvaluation := by
  intro order s k hstation hon hm ho torque stale θ e final
  have hstart : s.control.mode ≠ .start := fun h => by simp [h, Mode.lineOn] at hon
  obtain ⟨hentry, hothers, hslot, hsent⟩ := State.evaluated_observes (station_range hstation) hon hm ho order
  obtain ⟨hentry', hslot'⟩ := s.observed_closed k
  have hfinal {sign : Sign} {base : Int} {n : Nat} {successor : Option Sign}
      (hobs : s.observation = .counting k sign base n successor true) :
      s.observedEntry s.drive.closed k = final sign base successor := by
    rw [hentry', hobs]
    simp only [PeerEntry.observed, PeerEntry.assessed, decide_eq_true_eq]
    rfl
  refine ⟨_, exec_evaluation hstart order, hothers, ?slot, fun hlive => ⟨?sent, ?unsent⟩⟩
  case slot =>
    rw [hslot'] at hslot
    rw [hentry'] at hentry
    cases hobs : s.observation with
    | empty => trivial
    | pending p sign n =>
      obtain rfl : p = k := by simpa [hobs, Slot.peer?] using ho
      simp only [hobs, PeerEntry.observed, Slot.observed, decide_eq_true_eq] at hslot hentry
      exact and_of_eq_ite hslot hentry
    | counting p sign base n successor mark =>
      obtain rfl : p = k := by simpa [hobs, Slot.peer?] using ho
      match successor, mark with
      | none, false =>
        simp only [hobs, PeerEntry.observed, Slot.observed, decide_eq_true_eq] at hslot hentry
        show if stale then _ else _
        split
        next hs =>
          rw [if_pos hs] at hslot hentry
          exact ⟨hslot, hentry⟩
        next hs =>
          rw [if_neg hs] at hslot hentry
          exact and_of_eq_ite hslot hentry
      | some next, false =>
        simp only [hobs, PeerEntry.observed, Slot.observed, decide_eq_true_eq] at hslot hentry
        exact and_of_eq_ite hslot hentry
      | successor, true =>
        have hjudged := hentry.trans (hentry'.symm.trans (hfinal hobs))
        rw [hobs] at hslot
        cases successor with
        | none => exact ⟨hslot, hjudged⟩
        | some next => exact ⟨hslot, hjudged⟩
  case sent =>
    intro sign base n successor hobs hdisagrees
    refine hsent.sent ⟨?_, ?_⟩ hlive
    · rw [hobs]
      simp [Slot.finalFor]
    · rwa [hfinal hobs]
  case unsent =>
    intro hagrees
    refine hsent.unsent fun ⟨⟨hmark, hdisagrees⟩, _⟩ => ?_
    obtain ⟨sign, base, n, successor, hobs⟩ := Slot.exists_of_finalFor hmark
    exact hagrees sign base n successor hobs (hfinal hobs ▸ hdisagrees)

end Sys2Proof.Machine
end

section
/-! SUPPORT. CLEAR_FAULTS and the masks of TUNE: kinds cleared, records released, the lines moved (R162, R169, R171,
R179, R180). -/

namespace Sys2Proof.Machine

/-! ### Records released and sets of kinds -/

theorem Record.releaseIf_false {α : Type} (r : Record α) : (r.releaseIf fun _ => false) = r := by
  cases r <;> rfl

theorem and_not_eq_self {a b : KindSet} (h : a &&& b = 0) : a &&& ~~~b = a := by
  refine BitVec.eq_of_getLsbD_eq fun i _ => ?_
  have hbit := congrArg (·.getLsbD i) h
  simp only [BitVec.getLsbD_and] at hbit
  cases ha : a.getLsbD i <;> simp_all

/-- A kind is named by the flag of another only where their numbers agree. -/
theorem Kind.holds_flag (k j : Kind) : holds k.flag j = decide (j.number = k.number) := by
  have hk := k.number_range
  have hj := j.number_range
  rw [holds, Kind.getLsbD_flag, decide_eq_decide]
  omega

/-! ### The detect mask set and cleared -/

/-- Where the lines stood, the detect mask of a kind moves, and what its setting clears, by one rule (R162, R169). -/
theorem FaultUnit.setDetect_eq {f : FaultUnit} (hlines : f.driveLines = f) (k : Kind) (on : Bool) :
    f.setDetect k on = FaultUnit.driveLines
      { f with
        detectMask := if on then f.detectMask ||| k.flag else f.detectMask &&& ~~~k.flag
        status := if on then f.status &&& ~~~k.flag else f.status
        firstTrip := f.firstTrip.releaseIf fun c => on && holds f.status k && decide (c.kind.number = k.number)
        firstWarn := f.firstWarn.releaseIf fun c => on && holds f.status k && decide (c.kind.number = k.number) } := by
  have hstill (m : KindSet) :
      ({ f with detectMask := m } : FaultUnit) = FaultUnit.driveLines { f with detectMask := m } :=
    congrArg (fun g : FaultUnit => { g with detectMask := m }) hlines.symm
  cases on with
  | false => simpa [FaultUnit.setDetect, Record.releaseIf_false] using hstill _
  | true =>
    cases hset : holds f.status k with
    | true => simp [FaultUnit.setDetect, FaultUnit.clear, hset, Kind.holds_flag]
    | false =>
      have hunset : f.status &&& ~~~k.flag = f.status :=
        and_not_eq_self (by rw [BitVec.and_comm]; exact Kind.flag_and_eq_zero hset)
      simpa [FaultUnit.setDetect, hset, hunset, Record.releaseIf_false] using hstill _

/-! ### TUNE of a mask -/

theorem maskKind?_of_range {n : Nat} (hlow : 3 ≤ n) (htop : n ≤ 16) : ∃ k, maskKind? n = some k ∧ k.number = n := by
  interval_cases n <;> exact ⟨_, rfl, rfl⟩

theorem maskKind?_of_not_range {n : Nat} (h : n < 3 ∨ 16 < n) : maskKind? n = none := by
  rcases h with h | h
  · interval_cases n <;> rfl
  · obtain ⟨m, rfl⟩ : ∃ m, n = m + 17 := ⟨n - 17, by omega⟩
    rfl

section Masks

variable {t : State} (set : FaultUnit → Kind → Bool → FaultUnit)

theorem State.tuneMask_bad {number value : Nat} (h : number < 3 ∨ 16 < number ∨ 1 < value) :
    t.tuneMask set number value = refuse .badValue t := by
  by_cases hn : number < 3 ∨ 16 < number
  · unfold State.tuneMask
    rw [maskKind?_of_not_range hn]
  · obtain ⟨v, rfl⟩ : ∃ v, value = v + 2 := ⟨value - 2, by omega⟩
    unfold State.tuneMask
    cases maskKind? number <;> rfl

theorem State.tuneMask_done {k : Kind} {number : Nat} {value : Byte} (hk : maskKind? number = some k)
    (hv : value.toNat ≤ 1) :
    t.tuneMask set number value.toNat = done { t with fault := set t.fault k (decide (value = 1)) } := by
  obtain rfl | rfl : value = 0 ∨ value = 1 := by bv_omega
  all_goals
    unfold State.tuneMask
    rw [hk]
    rfl

theorem State.doTune_mask (hm : t.control.mode = .listen ∨ t.control.mode = .report) (hi lo : Byte) :
    t.doTune 11 hi lo = t.tuneMask FaultUnit.setDetect hi.toNat lo.toNat
      ∧ t.doTune 12 hi lo = t.tuneMask FaultUnit.setSignal hi.toNat lo.toNat :=
  ⟨if_pos hm, if_pos hm⟩

end Masks

/-! ### The statements -/

theorem State.reply_clearFaults (t : State) (hi lo : Byte) (rest : List Byte) :
    t.reply 5 (hi :: lo :: rest) = t.doClearFaults (hi ++ lo) := by
  have hlen : ¬ (knownKind 5 = true ∧ (hi :: lo :: rest).length < argsNeeded 5) := by simp [argsNeeded]
  rw [State.reply, if_neg hlen, ← ofNat_u16]
  rfl

/-- Settles O46: the fault unit's clearing written out, its records by what they hold. -/
theorem clearFaultsClears : Obligations.ClearFaultsClears := by
  intro s h hi lo rest ht kinds t status
  have ⟨⟨hon, _⟩, _⟩ := ht
  have hexec := exec_taken (c := .clearFaults h (hi :: lo :: rest)) rfl (takes_of_eq ht (Nat.add_comm 2 rest.length))
    (State.reply_clearFaults t hi lo rest) hon
  refine hexec.trans (congrArg
    (fun f => Host.Outcome.next (State.answered { t with fault := f } h .done [] false)) ?_)
  show s.fault.clear kinds = _
  unfold FaultUnit.clear FaultUnit.driveLines
  congr 1
  · cases s.fault.firstTrip <;> rfl
  · cases s.fault.firstWarn <;> rfl

/-- Settles O48: the reply to TUNE by mode, kind and value, for the two masks at once. -/
theorem tuneSetsMasks : Obligations.TuneSetsMasks := by
  intro s h kind value rest hf ht t one refused lines wasSet
  have ⟨⟨hon, _⟩, _⟩ := ht
  have hdetect {r : Reply} (hr : t.doTune 11 kind value = r) (hm : r.node.control.mode.lineOn = true) :=
    exec_taken (c := .tuneDetectMask h (kind :: value :: rest)) rfl (takes_of_eq ht (Nat.add_comm 3 rest.length))
      ((State.reply_tune t 11 kind value rest).trans hr) hm
  have hsignal {r : Reply} (hr : t.doTune 12 kind value = r) (hm : r.node.control.mode.lineOn = true) :=
    exec_taken (c := .tuneSignalMask h (kind :: value :: rest)) rfl (takes_of_eq ht (Nat.add_comm 3 rest.length))
      ((State.reply_tune t 12 kind value rest).trans hr) hm
  refine ⟨fun ha => ?_, fun ha => ?_⟩
  · have hrefuse (item : Nat) := State.doTune_authority (t := t) ha item kind value
    exact ⟨hdetect (hrefuse 11) hon, hsignal (hrefuse 12) hon⟩
  · obtain ⟨h11, h12⟩ := State.doTune_mask (t := t) (listen_or_report hon ha) kind value
    refine ⟨fun hbad => ?_, fun hlow htop hv => ?_⟩
    · exact ⟨hdetect (h11.trans (State.tuneMask_bad _ hbad)) hon, hsignal (h12.trans (State.tuneMask_bad _ hbad)) hon⟩
    · obtain ⟨k, hk, hnumber⟩ := maskKind?_of_range hlow htop
      have hflag : k.flag = one := by
        rw [Kind.flag_eq, hnumber, ← Nat.one_shiftLeft]
        rfl
      constructor
      · rw [hsignal (h12.trans (State.tuneMask_done _ hk hv)) hon]
        simp only [FaultUnit.setSignal, hflag, decide_eq_true_eq]
        rfl
      · rw [hdetect (h11.trans (State.tuneMask_done _ hk hv)) hon]
        have hset := FaultUnit.setDetect_eq hf.driveLines k (decide (value = 1))
        have hnamed (c : Kind) : (decide (value = 1) && holds s.fault.status k && decide (c.number = k.number))
            = decide (value = 1 ∧ wasSet ∧ c.number = kind.toNat) := by
          simp [wasSet, holds, hnumber, Bool.and_assoc]
        simp only [hnamed, hflag, decide_eq_true_eq] at hset
        refine congrArg
          (fun f => Host.Outcome.next (State.answered { t with fault := f } h .done [] false)) (hset.trans ?_)
        simp only [FaultUnit.driveLines, lines]
        congr 1
        · cases s.fault.firstTrip <;> simp [Record.releaseIf]
        · cases s.fault.firstWarn <;> simp [Record.releaseIf]

end Sys2Proof.Machine
end

section
/-! SUPPORT. The start record: its words written and read back, its fields clamped, and the start-clamp flag (R161,
R162, R187, R188, R191). -/

namespace Sys2Proof.Machine

/-! ### Words and bytes of a record (R187) -/

/-- The characters of a list of words, each less significant byte first (R187). -/
def wordChars (words : List Nat) : List Byte := words.flatMap fun w => [byte w, byte (w / 256)]

theorem wordChars_length (words : List Nat) : (wordChars words).length = 2 * words.length := by
  simp [wordChars, Nat.mul_comm]

/-- A word written and read; past the words every byte reads FF hex (R186). -/
theorem recordWord_wordChars (words : List Nat) (n : Nat) :
    recordWord (wordChars words) n = words.getD n 0xFFFF % 65536 := by
  induction words generalizing n with
  | nil => simp [recordWord, recordByte, wordChars]
  | cons w words ih =>
    have hchars : wordChars (w :: words) = byte w :: byte (w / 256) :: wordChars words := rfl
    cases n with
    | zero =>
      simp only [recordWord, recordByte, hchars, Nat.mul_zero, Nat.zero_add, List.getElem?_cons_zero,
        List.getElem?_cons_succ, Option.getD_some, toNat_byte, List.getD_cons_zero]
      omega
    | succ n =>
      have hbyte (k : Nat) : recordByte (wordChars (w :: words)) (k + 2) = recordByte (wordChars words) k := rfl
      rw [recordWord, Nat.mul_succ, hbyte, Nat.add_right_comm, hbyte, ← recordWord, ih, List.getD_cons_succ]

/-- The check sum of 24 words is their sum, modulo 65536 (R187). -/
theorem recordSum_wordChars {words : List Nat} (h : words.length = 24) :
    recordSum (wordChars words) = words.sum % 65536 := by
  have hmap : (List.range 24).map (recordWord (wordChars words)) = words.map (· % 65536) := by
    refine List.ext_getElem (by simp [h]) fun n hn hn' => ?_
    have hlt : n < words.length := by simpa using hn'
    simp [recordWord_wordChars, hlt]
  rw [recordSum, hmap, ← List.sum_nat_mod]

theorem recordByte_lt (record : List Byte) (i : Nat) : recordByte record i < 256 := BitVec.isLt _

theorem recordWord_lt (record : List Byte) (n : Nat) : recordWord record n < 65536 := by
  have hlow := recordByte_lt record (2 * n)
  have hhigh := recordByte_lt record (2 * n + 1)
  unfold recordWord
  omega

/-- The two bytes of a word. -/
theorem recordByte_of_recordWord {record : List Byte} {n low high : Nat}
    (h : recordWord record n = low + 256 * high) (hlow : low < 256) :
    recordByte record (2 * n) = low ∧ recordByte record (2 * n + 1) = high := by
  have hbyte := recordByte_lt record (2 * n)
  unfold recordWord at h
  omega

theorem recordSetpoint_eq (record : List Byte) :
    recordSetpoint record =
      if recordWord record 15 < 32768 then (recordWord record 15 : Int) else recordWord record 15 - 65536 := by
  have hlt := recordWord_lt record 15
  rw [recordSetpoint, BitVec.toInt_eq_toNat_cond, BitVec.toNat_ofNat, Nat.mod_eq_of_lt hlt]
  split <;> split <;> omega

/-! ### The classes and masks that are fixed (R161, R162) -/

theorem or_eq_self {a b : KindSet} (h : a &&& b = b) : a ||| b = a := by
  refine BitVec.eq_of_getLsbD_eq fun i _ => ?_
  have hbit := congrArg (·.getLsbD i) h
  simp only [BitVec.getLsbD_and] at hbit
  rw [BitVec.getLsbD_or, ← hbit]
  cases a.getLsbD i <;> rfl

/-! ### A record that carries an image -/

/-- The fields of a record are those of this image (R187, R191). -/
structure Carries (record : List Byte) (i : Image) : Prop where
  station           : recordWord record 0 = i.station
  group             : recordWord record 1 = i.group
  weight            : recordWord record 2 = i.weight
  position          : recordWord record 3 = i.position
  period            : recordWord record 4 = i.period
  passThreshold     : recordWord record 5 = i.passThreshold
  badThreshold      : recordWord record 6 = i.badThreshold
  edgeScale         : recordWord record 7 = i.edgeScale
  floorRung         : recordByte record 16 = i.floorRung
  topRung           : recordByte record 17 = i.topRung
  lockBand          : recordWord record 9 = i.lockBand
  shareGain         : recordWord record 10 = i.tuning.shareGain
  deadband          : recordWord record 11 = i.tuning.deadband
  rateLimit         : recordWord record 12 = i.tuning.rateLimit
  trimLimit         : recordWord record 13 = i.tuning.trimLimit
  fadeLength        : recordWord record 14 = i.fadeLength
  drawSetpoint      : recordSetpoint record = i.tuning.drawSetpoint
  drawTolerance     : recordWord record 16 = i.tuning.drawTolerance
  shareTolerance    : recordWord record 17 = i.tuning.shareTolerance
  couplingWindow    : recordWord record 18 = i.tuning.couplingWindow
  couplingThreshold : recordWord record 19 = i.tuning.couplingThreshold
  classMap          : BitVec.ofNat 16 (recordWord record 20) = i.classMap
  detectMask        : BitVec.ofNat 16 (recordWord record 21) = i.detectMask
  signalMask        : BitVec.ofNat 16 (recordWord record 22) = i.signalMask

section Carried

variable {record : List Byte} {i : Image}

/-- Fields in their ranges are taken as they are (R188). -/
theorem Carries.image_eq (h : Carries record i) (hi : i.InRange) : recordImage record = i := by
  obtain ⟨-, hgroup, ⟨hweight, hweight'⟩, hposition, ⟨hperiod, hperiod'⟩, ⟨hpass, hpass'⟩, ⟨hbad, hbad'⟩,
    ⟨hscale, hscale'⟩, ⟨hfloor, htop⟩, ⟨hband, hband'⟩, ⟨hfade, hfade'⟩,
    ⟨hgain, hdead, ⟨hrate, hrate'⟩, hlimit, ⟨hshare, hshare'⟩, ⟨hset, hset'⟩, ⟨hdraw, hdraw'⟩, ⟨hwindow, hwindow'⟩,
      ⟨hthreshold, hthreshold'⟩⟩,
    hclass, hdetect, hsignal⟩ := hi
  simp only [recordImage, recordTuning, recordField, recordFloor, recordTop, h.station, h.group, h.weight,
    h.position, h.period, h.passThreshold, h.badThreshold, h.edgeScale, h.floorRung, h.topRung, h.lockBand,
    h.shareGain, h.deadband, h.rateLimit, h.trimLimit, h.fadeLength, h.drawSetpoint, h.drawTolerance, h.shareTolerance,
    h.couplingWindow, h.couplingThreshold, h.classMap, h.detectMask, h.signalMask, clampNat_self, clampInt_self,
    Nat.zero_le, hfloor.trans htop, Nat.min_eq_left hfloor, or_eq_self hclass, and_not_eq_self hdetect,
    and_not_eq_self hsignal, *]

/-- Fields in their ranges leave the start-clamp flag clear (R188). -/
theorem Carries.unclamped (h : Carries record i) (hi : i.InRange) : recordClamped record = false := by
  simp only [recordClamped, h.image_eq hi, h.group, h.weight, h.position, h.period, h.passThreshold,
    h.badThreshold, h.edgeScale, h.floorRung, h.topRung, h.lockBand, h.shareGain, h.deadband, h.rateLimit, h.trimLimit,
    h.fadeLength, h.drawSetpoint, h.drawTolerance, h.shareTolerance, h.couplingWindow, h.couplingThreshold, and_self,
    not_true_eq_false, decide_false]

end Carried

/-! ### The record of an image -/

/-- The words of an image's record before its check word (R187). -/
def Image.words (i : Image) : List Nat :=
  [i.station, i.group, i.weight, i.position, i.period, i.passThreshold, i.badThreshold, i.edgeScale,
    i.floorRung + 256 * i.topRung, i.lockBand, i.tuning.shareGain, i.tuning.deadband, i.tuning.rateLimit,
    i.tuning.trimLimit, i.fadeLength, (BitVec.ofInt 16 i.tuning.drawSetpoint).toNat, i.tuning.drawTolerance,
    i.tuning.shareTolerance, i.tuning.couplingWindow, i.tuning.couplingThreshold, i.classMap.toNat,
    i.detectMask.toNat, i.signalMask.toNat]

/-- The check word that makes the sum 0 (R187). -/
def checkWord (words : List Nat) : Nat := (65536 - words.sum % 65536) % 65536

theorem startRecordOf_eq (i : Image) : startRecordOf i = wordChars (i.words ++ [checkWord i.words]) := rfl

theorem startRecordOf_length (i : Image) : (startRecordOf i).length = 48 := by
  rw [startRecordOf_eq, wordChars_length]
  rfl

theorem recordSum_startRecordOf (i : Image) : recordSum (startRecordOf i) = 0 := by
  rw [startRecordOf_eq, recordSum_wordChars rfl, List.sum_append, List.sum_singleton, checkWord]
  omega

theorem recordWord_startRecordOf {i : Image} {n v : Nat} (hn : i.words[n]? = some v) (hv : v < 65536) :
    recordWord (startRecordOf i) n = v := by
  have hlt : n < i.words.length := (List.getElem?_eq_some_iff.mp hn).1
  rw [startRecordOf_eq, recordWord_wordChars, List.getD_append _ _ _ _ hlt, List.getD_eq_getElem?_getD, hn,
    Option.getD_some, Nat.mod_eq_of_lt hv]

/-- A set of kinds written and read. -/
theorem recordKinds_startRecordOf {i : Image} {n : Nat} {m : KindSet} (hn : i.words[n]? = some m.toNat) :
    BitVec.ofNat 16 (recordWord (startRecordOf i) n) = m := by
  rw [recordWord_startRecordOf hn m.isLt, BitVec.ofNat_toNat, BitVec.setWidth_eq]

theorem recordSetpoint_startRecordOf {i : Image} (hlow : -200 ≤ i.tuning.drawSetpoint)
    (htop : i.tuning.drawSetpoint ≤ 500) : recordSetpoint (startRecordOf i) = i.tuning.drawSetpoint := by
  rw [recordSetpoint, recordKinds_startRecordOf (n := 15) rfl, BitVec.toInt_ofInt]
  exact Int.bmod_eq_of_le (by omega) (by omega)

theorem carries_startRecordOf {i : Image} (hi : i.InRange) : Carries (startRecordOf i) i := by
  obtain ⟨hstation, hgroup, ⟨-, hweight⟩, hposition, ⟨-, hperiod⟩, ⟨-, hpass⟩, ⟨-, hbad⟩, ⟨-, hscale⟩, ⟨hfloor, htop⟩,
    ⟨-, hband⟩, ⟨-, hfade⟩, ⟨hgain, hdead, ⟨-, hrate⟩, hlimit, ⟨-, hshare⟩, ⟨hset, hset'⟩, ⟨-, hdraw⟩, ⟨-, hwindow⟩,
      ⟨-, hthreshold⟩⟩, -⟩ := hi
  have word {n v : Nat} (top : Nat) (hn : i.words[n]? = some v) (hv : v ≤ top) (ht : top < 65536 := by decide) :
      recordWord (startRecordOf i) n = v := recordWord_startRecordOf hn (hv.trans_lt ht)
  obtain ⟨hlow, hhigh⟩ : recordByte (startRecordOf i) 16 = i.floorRung ∧ recordByte (startRecordOf i) 17 = i.topRung :=
    recordByte_of_recordWord (n := 8) (recordWord_startRecordOf rfl (by omega)) (by omega)
  exact
    { station := word 40 rfl hstation
      group := word 15 rfl hgroup
      weight := word 255 rfl hweight
      position := word 40 rfl hposition
      period := word 100 rfl hperiod
      passThreshold := word 15 rfl hpass
      badThreshold := word 15 rfl hbad
      edgeScale := word 65535 rfl hscale
      floorRung := hlow
      topRung := hhigh
      lockBand := word 50 rfl hband
      shareGain := word 4095 rfl hgain
      deadband := word 1000 rfl hdead
      rateLimit := word 500 rfl hrate
      trimLimit := word 2000 rfl hlimit
      fadeLength := word 64 rfl hfade
      drawSetpoint := recordSetpoint_startRecordOf hset hset'
      drawTolerance := word 500 rfl hdraw
      shareTolerance := word 3000 rfl hshare
      couplingWindow := word 32 rfl hwindow
      couplingThreshold := word 5000 rfl hthreshold
      classMap := recordKinds_startRecordOf rfl
      detectMask := recordKinds_startRecordOf rfl
      signalMask := recordKinds_startRecordOf rfl }

theorem recordGood_startRecordOf {i : Image} (hi : i.InRange) (hown : 1 ≤ i.station) :
    recordGood (startRecordOf i) = true := by
  rw [recordGood, recordSum_startRecordOf, (carries_startRecordOf hi).station]
  obtain ⟨hstation, -⟩ := hi
  simp [hown, hstation, Config.nodeMax]

/-! ### Fields clamped -/

theorem clampNat_zero (hi n : Nat) : clampNat 0 hi n = min hi n := Nat.zero_max _

/-- A word needs no upper end where that is the largest word. -/
theorem recordField_unbounded (record : List Byte) (n lo : Nat) :
    recordField record n lo 65535 = max lo (recordWord record n) := by
  have hlt := recordWord_lt record n
  unfold recordField clampNat
  omega

theorem recordFloor_eq (record : List Byte) : recordFloor record = min (recordTop record) (recordByte record 16) := by
  unfold recordFloor recordTop clampNat
  omega

theorem recordField_ne_iff {record : List Byte} {n lo hi : Nat} (h : lo ≤ hi) :
    ¬ recordField record n lo hi = recordWord record n ↔ recordWord record n < lo ∨ hi < recordWord record n := by
  unfold recordField clampNat
  omega

/-- Settles O7: an image's record carries the image; the ranges by the clamping; each field and its part in the flag by
its clamp. -/
theorem startRecordRoundTrip : Obligations.StartRecordRoundTrip := by
  refine ⟨fun i hi hown => ?_, fun record => recordImage_inRange, fun record hlen _ => ?_⟩
  · have hcarries := carries_startRecordOf hi
    exact ⟨startRecordOf_length i, recordGood_startRecordOf hi hown, hcarries.image_eq hi,
      hcarries.unclamped hi⟩
  · intro char word setpoint top map
    have hchar : ∀ n < 48, recordByte record n = char n := fun n hn => by
      simp [char, recordByte, List.getD_eq_getElem?_getD, hlen, hn]
    have hword : ∀ n < 24, recordWord record n = word n := fun n hn => by
      rw [recordWord, hchar _ (by omega), hchar _ (by omega)]
    have htop : recordTop record = top := by rw [recordTop, hchar 17 (by decide), clampNat_zero]
    have hsetpoint : recordSetpoint record = setpoint := by rw [recordSetpoint_eq, hword 15 (by decide)]
    constructor
    · simp only [recordImage, recordTuning, recordField_unbounded, recordFloor_eq, htop, hsetpoint]
      simp (disch := decide) only [recordField, clampNat_zero, hword, hchar]
      rfl
    · have htopmost : ¬ top = char 17 ↔ 7 < char 17 := by simp [top]
      have hbounds : ¬ clampInt (-200) 500 setpoint = setpoint ↔ setpoint < -200 ∨ 500 < setpoint := by
        rw [← ne_eq, clampInt_ne_iff (by decide), not_and_or, not_le, not_le]
      simp only [recordClamped, decide_eq_true_eq, recordImage, recordTuning, recordField_unbounded, recordFloor_eq,
        htop, hsetpoint, hbounds, not_and_or]
      simp (disch := decide) only [recordField_ne_iff]
      simp (disch := decide) only [hword, hchar, max_eq_right_iff, min_eq_right_iff, not_le, htopmost, Nat.not_lt_zero,
        false_or, or_assoc, or_left_comm (a := top < char 16) (b := 7 < char 17)]

end Sys2Proof.Machine
end

section
/-! SUPPORT. SNAPSHOT, RESET and unknown kinds, and the directives that are not carried out: ignored, too short, or
dropped at a full queue (R175 to R177, R183, R184). -/

namespace Sys2Proof.Machine

section Handled

variable {s : State} {h : DirectiveHead} {c : Instr} {kind : Byte} {args : List Byte}

/-! ### Replies (R175, R176) -/

/-- A kind that needs no arguments is carried out whatever arguments it has. -/
theorem State.reply_of_argsNeeded_zero (t : State) {n : Nat} (hn : argsNeeded n = 0) (args : List Byte) :
    t.reply n args = t.carryOut n args :=
  if_neg fun ⟨_, hshort⟩ => by omega

/-- Too few argument characters (R175). -/
theorem State.reply_short (t : State) {n : Nat} (hk : knownKind n = true) (hlen : args.length < argsNeeded n) :
    t.reply n args = refuse .badValue t :=
  if_pos ⟨hk, hlen⟩

/-- A kind outside R192's nine (R175). -/
theorem State.reply_unknown (t : State) {n : Nat} (hn : n = 0 ∨ 10 ≤ n) (args : List Byte) :
    t.reply n args = refuse .unknown t := by
  obtain rfl | ⟨m, rfl⟩ : n = 0 ∨ ∃ m, n = m + 10 := hn.imp_right fun h => ⟨n - 10, by omega⟩
  · exact t.reply_of_argsNeeded_zero rfl args
  · exact t.reply_of_argsNeeded_zero rfl args

/-- RESET needs no arguments (R192). -/
theorem ne_reset_of_argsNeeded_pos (hneeds : 0 < argsNeeded kind.toNat) : kind ≠ 9 := by
  rintro rfl
  exact absurd hneeds (by decide)

/-! ### Directive commands not carried out (R175, R177) -/

/-- A directive that is taken and refused; only RESET's answer resets (R176, R184). -/
theorem exec_refused (hd : directiveOf c = some (h, kind, args)) (ht : s.Takes h args.length) (hne : kind ≠ 9)
    {o : AnswerOutcome} (hr : (s.tookDirective h).reply kind.toNat args = refuse o (s.tookDirective h)) :
    exec c s = .next ((s.tookDirective h).answered h o [] false) := by
  have ⟨⟨hon, _⟩, _⟩ := ht
  rw [exec_taken hd ht hr hon, decide_eq_false hne]
  rfl

/-- A directive that is taken with too few argument characters. -/
theorem exec_short (hd : directiveOf c = some (h, kind, args)) (ht : s.Takes h args.length)
    (hk : knownKind kind.toNat = true) (hlen : args.length < argsNeeded kind.toNat) :
    exec c s = .next ((s.tookDirective h).answered h .badValue [] false) :=
  exec_refused hd ht (ne_reset_of_argsNeeded_pos (Nat.zero_lt_of_lt hlen)) (State.reply_short _ hk hlen)

/-- A broadcast that is neither STOP_TEST nor SNAPSHOT. -/
theorem State.takeBroadcast_ignored (t : State) (hstop : kind ≠ 4) (hsnapshot : kind ≠ 8) :
    t.takeBroadcast kind = t := by
  rw [State.takeBroadcast, if_neg hstop, if_neg hsnapshot]

/-- A directive for another station, and a broadcast of a kind that is not taken, is only heard. -/
theorem State.receiveDirective_ignored (ho : s.Open) (hterm : 60 ≤ h.terminal.toNat) (hn : args.length ≤ 15)
    (htgt : h.target.toNat ≠ s.own) (hcast : h.target ≠ 0 ∨ (kind ≠ 4 ∧ kind ≠ 8)) :
    s.receiveDirective h kind args = s.heard h.moment := by
  by_cases h0 : h.target = 0
  · obtain ⟨hstop, hsnapshot⟩ := hcast.resolve_left (not_not.mpr h0)
    have hown : s.own ≠ 0 := fun e => htgt (by rw [h0, e]; rfl)
    rw [State.receiveDirective_broadcast kind ho hterm h0 hown hn, State.takeBroadcast_ignored _ hstop hsnapshot]
  · exact State.receiveDirective_elsewhere kind ho hterm htgt h0 hn

/-- A terminal's contention field is its station number: its class is 0 (R30). -/
theorem contention_zero_toNat (terminal : BitVec 6) : (contention 0 terminal).toNat = terminal.toNat := by
  rw [contention, BitVec.toNat_append]
  simp

/-- A directive dropped, ANSWER_OVERFLOW being of WARN class (R177). -/
theorem State.dropDirective_warn (t : State) (terminal : BitVec 6) (hw : t.fault.warns .answerOverflow) :
    t.dropDirective (contention 0 terminal)
      = { t with
          handler := { t.handler with dropped := min 65535 (t.handler.dropped + 1) }
          fault := t.fault.warned .answerOverflow terminal.toNat t.control.evaluations } := by
  rw [State.dropDirective, State.takeNotice_warn _ _ hw, notice, contention_zero_toNat]
  rfl

/-- An addressed directive of any kind that finds the queue full, ANSWER_OVERFLOW being of WARN class. -/
theorem exec_dropped (hd : directiveOf c = some (h, kind, args)) (ho : s.Open) (hterm : 60 ≤ h.terminal.toNat)
    (hn : args.length ≤ 15) (htgt : h.target.toNat = s.own) (hq : s.handler.queue.length = 4)
    (hw : s.fault.warns .answerOverflow) :
    exec c s = .next
      { s.heard h.moment with
        handler := { s.handler with dropped := min 65535 (s.handler.dropped + 1) }
        fault := s.fault.warned .answerOverflow h.terminal.toNat s.control.evaluations } := by
  rw [exec_directiveOf hd, State.receiveDirective_full kind ho hterm htgt (by omega) hn]
  exact congrArg _ ((s.heard h.moment).dropDirective_warn h.terminal hw)

end Handled

/-! ### The statements -/

/-- Settles O52: the reply of each of the three kinds, and the broadcast; SNAPSHOT copies what `liveCounters` reads. -/
theorem snapshotResetUnknown : Obligations.SnapshotResetUnknown := by
  intro s h kind args t copied
  refine ⟨fun ht => ⟨?snapshot, ?reset, fun hkind => ?unknown⟩, fun ho hterm h0 hown hn => ?broadcast⟩
  case snapshot =>
    have ⟨⟨hon, _⟩, _⟩ := ht
    exact exec_taken (c := .snapshot h args) (r := done copied) rfl ht (t.reply_of_argsNeeded_zero rfl args) hon
  case reset =>
    have ⟨⟨hon, _⟩, _⟩ := ht
    exact exec_taken (c := .reset h args) (r := done t) rfl ht (t.reply_of_argsNeeded_zero rfl args) hon
  case unknown =>
    have hnumber : kind.toNat = 0 ∨ 10 ≤ kind.toNat := hkind.imp_left fun e => by rw [e]; rfl
    exact exec_refused rfl ht (by bv_omega) (t.reply_unknown hnumber args)
  case broadcast =>
    exact congrArg Host.Outcome.next (State.receiveDirective_broadcast 8 ho hterm h0 hown hn)

/-- Settles O53: the three ways in which a directive is not carried out, each the same for every kind. -/
theorem directiveNotCarriedOut : Obligations.DirectiveNotCarriedOut := by
  refine ⟨fun s h kind args ho hterm hn => ⟨fun htgt hcast => ?ignored, fun ht => ?short⟩,
    fun s h kind args ho hterm hn htgt hq hw => ?dropped⟩
  case ignored =>
    exact congrArg Host.Outcome.next (State.receiveDirective_ignored ho hterm hn htgt hcast)
  case short =>
    refine ⟨fun hlen => exec_short rfl ht rfl hlen, fun hlen => exec_short rfl ht rfl hlen,
      fun hlen => exec_short rfl ht rfl hlen, ?tune, fun hlen => ?readNode⟩
    case tune =>
      rintro item value rfl hlen
      exact exec_short rfl ht rfl (Nat.succ_lt_succ hlen)
    case readNode =>
      obtain ⟨-, -, htgt, hq, -⟩ := ht
      have hfits : (1 :: args).length ≤ 15 := by rw [List.length_cons]; omega
      exact exec_short rfl ⟨ho, hterm, htgt, hq, hfits⟩ rfl (Nat.succ_lt_succ hlen)
  case dropped =>
    intro t dropped
    have hdrop {c : Instr} {k : Byte} (hd : directiveOf c = some (h, k, args)) : exec c s = .next dropped :=
      exec_dropped hd ho hterm hn htgt hq hw
    exact ⟨hdrop rfl, hdrop rfl, hdrop rfl, hdrop rfl⟩

end Sys2Proof.Machine
end

section
/-! SUPPORT. The queue of waiting commands: no operation of the node reads it or writes it. An operation carries the
queue where putting another queue in changes that queue, and nothing else, in what comes out. -/

namespace Sys2Proof.Machine

/-! ### What carries the queue -/

/-- The node with another queue of waiting commands. -/
def State.withQueue (s : State) (q : List Instr) : State := { s with pending := q }

/-- The reply whose node has another queue. -/
def Reply.withQueue (r : Reply) (q : List Instr) : Reply := { r with node := r.node.withQueue q }

/-- `f` carries the queue: whatever queue goes in is put, by `put`, into what comes out, which depends on it nowhere
else. -/
def CarriesQueue {α : Type} (put : α → List Instr → α) (f : State → α) : Prop :=
  ∀ (s : State) (q : List Instr), f (s.withQueue q) = put (f s) q

/-- What `view` reads off the node is the same whatever queue it has. -/
def QueueUnread {β : Sort _} (view : State → β) : Prop :=
  (fun (s : State) (q : List Instr) => view (s.withQueue q)) = fun s _ => view s

theorem QueueUnread.eq {β : Sort _} {view : State → β} (h : QueueUnread view) (s : State) (q : List Instr) :
    view (s.withQueue q) = view s := congrFun (congrFun h s) q

/-- An operation on the node that carries the queue. -/
abbrev QueueFree (f : State → State) : Prop := CarriesQueue State.withQueue f

/-- A directive's carrying out that carries the queue. -/
abbrev ReplyQueueFree (f : State → Reply) : Prop := CarriesQueue Reply.withQueue f

/-- Putting back the queue that a node has is nothing, so an operation that carries the queue leaves it alone. -/
theorem CarriesQueue.pending_eq {f : State → State} (hf : QueueFree f) (s : State) : (f s).pending = s.pending := by
  have hsame : f s = (f s).withQueue s.pending := hf s s.pending
  rw [hsame]
  rfl

namespace CarriesQueue

variable {α β : Type} {put : α → List Instr → α} {f g : State → α} {h : State → State}

theorem same : QueueFree fun s => s := fun _ _ => rfl

theorem comp (hf : CarriesQueue put f) (hh : QueueFree h) : CarriesQueue put fun s => f (h s) := fun s q =>
  (congrArg f (hh s q)).trans (hf (h s) q)

/-- A choice at one node, by something other than the queue. -/
theorem choice {c d : Prop} [Decidable c] [Decidable d] {q : List Instr} {x y x' y' : α} (hc : c = d)
    (hx : x' = put x q) (hy : y' = put y q) : (if c then x' else y') = put (if d then x else y) q := by
  by_cases hd : d
  · rw [if_pos (hc.mpr hd), if_pos hd, hx]
  · rw [if_neg fun h => hd (hc.mp h), if_neg hd, hy]

theorem ite {c : State → Prop} [∀ s, Decidable (c s)] (hc : QueueUnread c) (hf : CarriesQueue put f)
    (hg : CarriesQueue put g) : CarriesQueue put fun s => if c s then f s else g s := fun s q =>
  choice (hc.eq s q) (hf s q) (hg s q)

/-- An operation with an operand that is read off the node, but not off the queue. -/
theorem reading {k : β → State → α} (view : State → β) (hview : QueueUnread view)
    (hk : ∀ b, CarriesQueue put (k b)) : CarriesQueue put fun s => k (view s) s := fun s q =>
  (congrArg (k · (s.withQueue q)) (hview.eq s q)).trans (hk (view s) s q)

/-- An operation repeated along a list, from what carries the queue already. -/
theorem foldl {step : α → β → α} (hf : CarriesQueue put f)
    (hstep : ∀ b a q, step (put a q) b = put (step a b) q) (l : List β) :
    CarriesQueue put fun s => l.foldl step (f s) := fun s q =>
  (congrArg (l.foldl step) (hf s q)).trans (List.foldl_hom (put · q) fun a b => hstep b a q)

end CarriesQueue

open CarriesQueue (same choice)

/-! ### What is read off the node -/

section
variable (s : State) (q : List Instr)

@[simp] theorem State.withQueue_drive : (s.withQueue q).drive = s.drive := rfl
@[simp] theorem State.withQueue_line : (s.withQueue q).line = s.line := rfl
@[simp] theorem State.withQueue_control : (s.withQueue q).control = s.control := rfl
@[simp] theorem State.withQueue_excitation : (s.withQueue q).excitation = s.excitation := rfl
@[simp] theorem State.withQueue_observation : (s.withQueue q).observation = s.observation := rfl
@[simp] theorem State.withQueue_fault : (s.withQueue q).fault = s.fault := rfl
@[simp] theorem State.withQueue_handler : (s.withQueue q).handler = s.handler := rfl
@[simp] theorem State.withQueue_peer (k : Nat) : (s.withQueue q).peer k = s.peer k := rfl
@[simp] theorem State.withQueue_chooseAttempt : (s.withQueue q).chooseAttempt = s.chooseAttempt := rfl
@[simp] theorem State.withQueue_trimBar : (s.withQueue q).trimBar = s.trimBar := rfl
@[simp] theorem State.withQueue_testBar : (s.withQueue q).testBar = s.testBar := rfl

end

/-! ### The peer table's map, modes and notices -/

theorem queueFree_zeroAuthority : QueueFree fun s => s.zeroAuthority := fun _ _ => rfl
theorem queueFree_endTest (o : TestOutcome) : QueueFree fun s => s.endTest o := fun _ _ => rfl
theorem queueFree_openTorque (chars : List Byte) : QueueFree fun s => s.openTorque chars := fun _ _ => rfl
theorem queueFree_emptySlot : QueueFree fun s => s.emptySlot := fun _ _ => rfl

theorem queueFree_setPeer (k : Nat) {e : State → PeerEntry} (he : QueueUnread e) :
    QueueFree fun s => s.setPeer k (e s) :=
  .reading (k := fun e s => s.setPeer k e) e he fun _ => .ite rfl (fun _ _ => rfl) same

theorem queueFree_settleTx : QueueFree fun s => s.settleTx := by
  intro s q
  simp only [State.settleTx, State.withQueue_line]
  split <;> rfl

theorem queueFree_changeMode (m : Mode) : QueueFree fun s => s.changeMode m :=
  queueFree_settleTx.comp fun _ _ => rfl

theorem queueFree_toHold : QueueFree fun s => s.toHold := (queueFree_changeMode .hold).comp fun _ _ => rfl

theorem queueFree_endAttempt (rx : RxState) : QueueFree fun s => s.endAttempt rx :=
  queueFree_settleTx.comp fun _ _ => rfl

theorem queueFree_tripDrop (h : Bool) : QueueFree fun s => s.tripDrop h := by
  have hhold : QueueFree fun s => if h then s.toHold else s := .ite rfl queueFree_toHold same
  intro s q
  simp only [State.tripDrop, State.withQueue_control]
  split
  case h_1 => exact (queueFree_changeMode _).comp queueFree_zeroAuthority s q
  case h_2 => exact (queueFree_changeMode _).comp ((queueFree_endTest _).comp queueFree_zeroAuthority) s q
  case h_6 => rfl
  all_goals exact hhold s q

theorem queueFree_toFirstTrip (ns : List Notice) : QueueFree fun s => s.toFirstTrip ns := by
  intro s q
  cases ns with
  | nil => rfl
  | cons n rest =>
    simp only [State.toFirstTrip, State.withQueue_fault]
    split <;> rfl

theorem queueFree_toFirstWarn (ns : List Notice) : QueueFree fun s => s.toFirstWarn ns := by
  intro s q
  cases ns with
  | nil => rfl
  | cons n rest =>
    simp only [State.toFirstWarn, State.withQueue_fault]
    split <;> rfl

theorem queueFree_recordNotices (ns : List Notice) : QueueFree fun s => s.recordNotices ns :=
  .reading (k := fun f s =>
      (State.toFirstTrip { s with fault := ((f.live ns).foldl FaultUnit.count f).driveLines }
        ((f.live ns).filter fun n => holds f.classMap n.kind)).toFirstWarn
          ((f.live ns).filter fun n => !holds f.classMap n.kind))
    State.fault rfl fun _ => (queueFree_toFirstWarn _).comp ((queueFree_toFirstTrip _).comp fun _ _ => rfl)

theorem queueFree_takeNotices (ns : List Notice) : QueueFree fun s => s.takeNotices ns :=
  .ite rfl
    (.reading (k := fun f s => (s.recordNotices ns).tripDrop (f.dropsToHold ns)) State.fault rfl fun _ =>
      (queueFree_tripDrop _).comp (queueFree_recordNotices ns))
    (queueFree_recordNotices ns)

theorem queueFree_takeNotice (n : Notice) : QueueFree fun s => s.takeNotice n := queueFree_takeNotices [n]

/-! ### The drive link and the tracker -/

theorem queueFree_offerTorque (word : Int) (ready : Bool) : QueueFree fun s => s.offerTorque word ready :=
  .ite rfl
    (.reading (k := fun ns s => (s.accumulate word ready).takeNotices ns) (·.torqueNotices word ready) rfl fun ns =>
      (queueFree_takeNotices ns).comp fun _ _ => rfl)
    fun _ _ => rfl

theorem queueFree_judgeTorque (a b c d e : Byte) : QueueFree fun s => s.judgeTorque a b c d e :=
  .ite rfl (queueFree_offerTorque _ _) fun _ _ => rfl

theorem queueFree_torqueCharacter (c : Byte) : QueueFree fun s => s.torqueCharacter c := by
  intro s q
  simp only [State.torqueCharacter, State.withQueue_drive]
  split
  case h_1 => exact choice rfl rfl rfl
  case h_2 => exact (queueFree_judgeTorque _ _ _ _ _).comp (queueFree_openTorque []) s q
  case h_3 => rfl

theorem queueFree_torqueArrives (chars : List Byte) : QueueFree fun s => s.torqueArrives chars :=
  .ite rfl same (.foldl same queueFree_torqueCharacter chars)

theorem queueFree_cutTorque : QueueFree fun s => s.cutTorque := .ite rfl same fun _ _ => rfl

theorem queueFree_staleNotice (began : Mode) : QueueFree fun s => s.staleNotice began :=
  .ite rfl (queueFree_takeNotice _) same

theorem queueFree_formReference : QueueFree fun s => s.formReference := .ite rfl (fun _ _ => rfl) same

theorem queueFree_gateElapsed : QueueFree fun s => s.gateElapsed :=
  have hgate : QueueFree fun s => { s with tracker := s.tracker.gateEnd s.image.gate } := fun _ _ => rfl
  .ite rfl same (.ite rfl ((queueFree_takeNotice _).comp hgate) hgate)

/-! ### The works of the balance engine, the draw verifier and the excitation unit -/

theorem queueFree_balanceWork : QueueFree fun s => s.balanceWork :=
  .ite rfl
    (.reading (k := fun ns s => State.takeNotices { s with balance := s.balanced } ns) State.balanceNotices rfl
      fun ns => (queueFree_takeNotices ns).comp fun _ _ => rfl)
    same

theorem queueFree_fadeStep : QueueFree fun s => s.fadeStep := by
  intro s q
  simp only [State.fadeStep, State.withQueue_control]
  split
  case h_1 => exact choice rfl rfl rfl
  case h_2 => exact choice rfl ((queueFree_changeMode .report).comp queueFree_zeroAuthority s q) rfl
  case h_3 => rfl

theorem queueFree_applyTrim : QueueFree fun s => s.applyTrim := .ite rfl (fun _ _ => rfl) same

theorem queueFree_drawWork : QueueFree fun s => s.drawWork :=
  have hdraw : QueueFree fun s => { s with draw := s.verified } := fun _ _ => rfl
  .ite rfl (.ite rfl ((queueFree_takeNotice _).comp hdraw) hdraw) same

theorem queueFree_runStep (p : Pattern) : QueueFree fun s => s.runStep p :=
  have hstep : QueueFree fun s => { s with excitation := (s.checkResponse p).advance p } := fun _ _ => rfl
  .ite rfl ((queueFree_changeMode .report).comp fun _ _ => rfl) hstep

theorem queueFree_excitationWork : QueueFree fun s => s.excitationWork := by
  intro s q
  simp only [State.excitationWork, State.withQueue_control, State.withQueue_excitation]
  split
  case h_1 p _ _ =>
    have hrun := queueFree_runStep p
    have hpost : QueueFree fun s => { s with excitation := { s.excitation with limitPosted := true } } :=
      fun _ _ => rfl
    exact choice rfl ((queueFree_takeNotice _).comp (hpost.comp hrun) s q) (hrun s q)
  case h_2 => rfl

/-! ### The coupling observer -/

theorem queueFree_countMissed (k : Nat) : QueueFree fun s => s.countMissed k := queueFree_setPeer k rfl

theorem queueFree_giveVerdict (k : Nat) : QueueFree fun s => s.giveVerdict k :=
  have hgiven : QueueFree fun s => s.setPeer k { s.peer k with verdict := some (s.peer k).judged, marker := false } :=
    queueFree_setPeer k rfl
  .ite rfl ((queueFree_takeNotice _).comp hgiven) hgiven

/-- An operation, and then the slot replaced by one that is read off the node before it. -/
theorem CarriesQueue.slot {f : State → State} (hf : QueueFree f) (o : State → Slot)
    (ho : QueueUnread o) : QueueFree fun s => { f s with observation := o s } :=
  .reading (k := fun o s => { f s with observation := o }) o ho fun o s q =>
    congrArg (fun t : State => { t with observation := o }) (hf s q)

theorem queueFree_transition (k : Nat) (sign : Sign) : QueueFree fun s => s.transition k sign := by
  have hmiss := queueFree_countMissed k
  refine .ite rfl hmiss fun s q => ?_
  simp only [State.withQueue_observation]
  split
  case h_1 => rfl
  case h_2 =>
    have harm := hmiss.slot (fun s => .pending k sign s.handler.tuning.couplingWindow) rfl
    exact choice rfl (harm s q) (hmiss s q)
  case h_3 => exact choice rfl rfl (hmiss s q)
  case h_4 p sg base rem _ final _ =>
    have harm := hmiss.slot (fun _ => .counting p sg base rem (some sign) final) rfl
    exact choice rfl (harm s q) (hmiss s q)

theorem queueFree_levelChange (k : Nat) (old new : Level) : QueueFree fun s => s.levelChange k old new := by
  unfold State.levelChange
  split
  · exact queueFree_transition k _
  · exact same

theorem queueFree_testStart (k : Nat) (level : Level) : QueueFree fun s => s.testStart k level :=
  have hbegun : QueueFree fun s =>
      s.setPeer k { s.peer k with marker := true, seen := 0, contrary := 0, quiet := 0, missed := 0 } :=
    queueFree_setPeer k rfl
  (queueFree_levelChange k .zero level).comp
    (hbegun.comp (.ite rfl ((queueFree_giveVerdict k).comp queueFree_emptySlot) same))

theorem queueFree_testEnd (k : Nat) : QueueFree fun s => s.testEnd k := by
  have hgive := queueFree_giveVerdict k
  intro s q
  simp only [State.testEnd, State.withQueue_observation]
  split
  case h_1 => exact choice rfl rfl (hgive s q)
  case h_2 =>
    exact choice rfl (hgive.comp (queueFree_emptySlot.comp (queueFree_countMissed k)) s q) (hgive s q)
  case h_3 => exact hgive s q

theorem queueFree_observeUpdate (k : Nat) (previous : Option Contents) (now : Contents) :
    QueueFree fun s => s.observeUpdate k previous now := by
  unfold State.observeUpdate
  split
  case h_1 => exact same
  case h_2 =>
    split
    case h_1 => exact .ite rfl (queueFree_levelChange k _ _) same
    case h_2 => exact .ite rfl (queueFree_testEnd k) same
    case h_3 => exact queueFree_testStart k _
    case h_4 => exact same

theorem queueFree_observeDemotion (d : Demotion) : QueueFree fun s => s.observeDemotion d :=
  have habandon : QueueFree fun s => s.setPeer d.station ((s.peer d.station).abandon d.cause) :=
    queueFree_setPeer d.station rfl
  .ite rfl (.ite rfl (queueFree_emptySlot.comp habandon) habandon) same

theorem queueFree_judge (k : Nat) (sign : Sign) (baseline : Int) : QueueFree fun s => s.judge k sign baseline :=
  .ite rfl (queueFree_countMissed k) (queueFree_setPeer k rfl)

theorem queueFree_observe : QueueFree fun s => s.observe := by
  intro s q
  simp only [State.observe, State.withQueue_observation]
  split
  case h_1 => rfl
  case h_2 k sign rem _ =>
    exact choice rfl (queueFree_emptySlot.comp (queueFree_countMissed k) s q) rfl
  case h_3 k sign base rem _ =>
    exact choice rfl (queueFree_emptySlot.comp (queueFree_countMissed k) s q)
      (choice rfl (queueFree_emptySlot.comp (queueFree_judge k sign base) s q) rfl)
  case h_4 k sign base _ next _ =>
    have hnext := (queueFree_judge k sign base).slot
      (fun s => .counting k next s.drive.held s.handler.tuning.couplingWindow none false) rfl
    exact choice rfl (queueFree_emptySlot.comp ((queueFree_countMissed k).comp (queueFree_judge k sign base)) s q)
      (hnext s q)
  case h_5 k sign base _ _ =>
    exact (queueFree_giveVerdict k).comp (queueFree_emptySlot.comp (queueFree_judge k sign base)) s q
  case h_6 k sign base _ _ _ =>
    exact (queueFree_giveVerdict k).comp
      (queueFree_emptySlot.comp ((queueFree_countMissed k).comp (queueFree_judge k sign base))) s q

theorem queueFree_observeEvaluation : QueueFree fun s => s.observeEvaluation := .ite rfl queueFree_observe same

theorem queueFree_observeTestEntry : QueueFree fun s => s.observeTestEntry := by
  intro s q
  simp only [State.observeTestEntry, State.withQueue_observation]
  split
  case h_1 => rfl
  case h_2 k _ _ _ => exact queueFree_emptySlot.comp (queueFree_countMissed k) s q
  case h_3 k _ _ _ succ _ _ =>
    have hmiss := queueFree_countMissed k
    have hleft : QueueFree fun s =>
        (if succ.isSome then (s.countMissed k).countMissed k else s.countMissed k).emptySlot :=
      queueFree_emptySlot.comp (.ite rfl (hmiss.comp hmiss) hmiss)
    exact choice rfl ((queueFree_giveVerdict k).comp hleft s q) (hleft s q)

/-! ### The peer table -/

theorem queueFree_afterBreak (k : Nat) (wasQualified : Bool) : QueueFree fun s => s.afterBreak k wasQualified :=
  have hnotice : QueueFree fun s => if wasQualified then s.takeNotice (notice .peerUnsteady k) else s :=
    .ite rfl (queueFree_takeNotice _) same
  (queueFree_observeDemotion _).comp hnotice

theorem queueFree_takeReport (k : Nat) (r : Report) : QueueFree fun s => s.takeReport k r := by
  refine .reading (k := fun e s =>
      (if e.caseOf r = .break then
        (s.setPeer k (e.take s.image.passThreshold s.clock r)).afterBreak k (decide (e.state = .qualified))
       else s.setPeer k (e.take s.image.passThreshold s.clock r)).observeUpdate k (e.stored.map Report.contents)
        r.contents)
    (·.peer k) rfl fun e => (queueFree_observeUpdate k _ _).comp ?_
  have htaken : QueueFree fun s => s.setPeer k (e.take s.image.passThreshold s.clock r) := queueFree_setPeer k rfl
  exact .ite rfl ((queueFree_afterBreak k _).comp htaken) htaken

theorem queueFree_reportArrives (k : Nat) (payload : List Byte) : QueueFree fun s => s.reportArrives k payload := by
  unfold State.reportArrives
  split
  · exact queueFree_takeReport k _
  · exact same

theorem queueFree_expire (k : Nat) : QueueFree fun s => s.expire k :=
  have hlapsed : QueueFree fun s => s.setPeer k (s.peer k).lapse := queueFree_setPeer k rfl
  (queueFree_observeDemotion _).comp (.ite rfl ((queueFree_takeNotice _).comp hlapsed) hlapsed)

theorem queueFree_watchdogDue (due : WatchdogDue) : QueueFree fun s => s.watchdogDue due := by
  have hclock : QueueFree fun s => { s with clock := max s.clock due.moment } := fun _ _ => rfl
  intro s q
  simp only [State.watchdogDue, State.withQueue_control, State.withQueue_peer]
  split
  · exact choice rfl ((queueFree_expire due.station).comp hclock s q) rfl
  · rfl

theorem queueFree_loseStep : QueueFree fun s => s.loseStep := fun _ _ => rfl

/-! ### Directives -/

theorem replyQueueFree_done : ReplyQueueFree done := fun _ _ => rfl

theorem replyQueueFree_refuse (o : AnswerOutcome) : ReplyQueueFree (refuse o) := fun _ _ => rfl

theorem replyQueueFree_towardListen : ReplyQueueFree fun s => s.towardListen := by
  intro s q
  simp only [State.towardListen, State.withQueue_control]
  split
  case h_1 => rfl
  case h_2 => exact replyQueueFree_done.comp (queueFree_changeMode .listen) s q
  case h_3 => rfl

theorem queueFree_beginFadeOut : QueueFree fun s => s.beginFadeOut :=
  .ite rfl (queueFree_changeMode .report) fun _ _ => rfl

theorem replyQueueFree_towardReport : ReplyQueueFree fun s => s.towardReport := by
  intro s q
  simp only [State.towardReport, State.withQueue_control]
  split
  case h_1 => exact replyQueueFree_done.comp (queueFree_changeMode .report) s q
  case h_2 => rfl
  case h_3 => rfl
  case h_4 => exact replyQueueFree_done.comp queueFree_beginFadeOut s q
  case h_5 => rfl

theorem queueFree_enterTrim : QueueFree fun s => s.enterTrim := (queueFree_changeMode _).comp fun _ _ => rfl

theorem queueFree_reverseFade : QueueFree fun s => s.reverseFade := .ite rfl (fun _ _ => rfl) fun _ _ => rfl

theorem replyQueueFree_towardTrim : ReplyQueueFree fun s => s.towardTrim := by
  intro s q
  simp only [State.towardTrim, State.withQueue_control, State.withQueue_trimBar]
  split
  case h_1 =>
    split
    · rfl
    · exact replyQueueFree_done.comp queueFree_enterTrim s q
  case h_2 => exact replyQueueFree_done.comp queueFree_reverseFade s q
  case h_3 => rfl
  case h_4 => rfl

theorem replyQueueFree_doSetMode (target : Nat) : ReplyQueueFree fun s => s.doSetMode target := by
  unfold State.doSetMode
  split
  case h_1 => exact replyQueueFree_towardListen
  case h_2 => exact replyQueueFree_towardReport
  case h_3 => exact replyQueueFree_towardTrim
  case h_4 => exact replyQueueFree_refuse _

theorem replyQueueFree_doLoadPattern (n : Nat) (levels : List Byte) (hold amplitude tolerance : Nat) (target : Byte) :
    ReplyQueueFree fun s => s.doLoadPattern n levels hold amplitude tolerance target := by
  refine .ite rfl (replyQueueFree_refuse _) (.ite rfl (replyQueueFree_refuse _) ?_)
  split
  · exact replyQueueFree_refuse _
  · exact fun _ _ => rfl

theorem queueFree_beginTest : QueueFree fun s => s.beginTest :=
  queueFree_observeTestEntry.comp ((queueFree_changeMode .test).comp fun _ _ => rfl)

theorem replyQueueFree_doStartTest : ReplyQueueFree fun s => s.doStartTest := by
  intro s q
  simp only [State.doStartTest, State.withQueue_testBar]
  split
  · rfl
  · exact replyQueueFree_done.comp queueFree_beginTest s q

theorem replyQueueFree_doStopTest : ReplyQueueFree fun s => s.doStopTest :=
  .ite rfl (replyQueueFree_done.comp ((queueFree_changeMode .report).comp (queueFree_endTest .aborted)))
    (replyQueueFree_refuse _)

theorem replyQueueFree_tuneMask (set : FaultUnit → Kind → Bool → FaultUnit) (number value : Nat) :
    ReplyQueueFree fun s => s.tuneMask set number value := by
  unfold State.tuneMask
  split <;> exact fun _ _ => rfl

theorem replyQueueFree_doTune (item : Nat) (hi lo : Byte) : ReplyQueueFree fun s => s.doTune item hi lo := by
  refine .ite rfl ?_ (replyQueueFree_refuse _)
  split
  case h_1 => exact fun _ _ => rfl
  case h_2 => exact replyQueueFree_tuneMask _ _ _
  case h_3 => exact replyQueueFree_tuneMask _ _ _
  case h_4 =>
    split
    · exact replyQueueFree_refuse _
    · exact fun _ _ => rfl

theorem replyQueueFree_doRead (item index : Nat) : ReplyQueueFree fun s => s.doRead item index := by
  have hitem (s : State) (q : List Instr) : (s.withQueue q).readItem item index = s.readItem item index := by rfl
  intro s q
  simp only [State.doRead, hitem]
  split <;> rfl

theorem queueFree_takeSnapshot : QueueFree fun s => s.takeSnapshot := fun _ _ => rfl

theorem replyQueueFree_carryOut (kind : Nat) (args : List Byte) : ReplyQueueFree fun s => s.carryOut kind args := by
  unfold State.carryOut
  split
  case h_1 => exact replyQueueFree_doSetMode _
  case h_2 => exact replyQueueFree_doLoadPattern _ _ _ _ _ _
  case h_3 => exact replyQueueFree_doStartTest
  case h_4 => exact replyQueueFree_doStopTest
  case h_5 => exact fun _ _ => rfl
  case h_6 => exact replyQueueFree_doTune _ _ _
  case h_7 => exact replyQueueFree_doRead _ _
  case h_8 => exact fun _ _ => rfl
  case h_9 => exact replyQueueFree_done
  case h_10 => exact replyQueueFree_refuse _

theorem replyQueueFree_reply (kind : Nat) (args : List Byte) : ReplyQueueFree fun s => s.reply kind args :=
  .ite rfl (replyQueueFree_refuse _) (replyQueueFree_carryOut kind args)

theorem queueFree_countDirective : QueueFree fun s => s.countDirective := fun _ _ => rfl

theorem queueFree_enqueue (a : Answer) : QueueFree fun s => s.enqueue a := queueFree_settleTx.comp fun _ _ => rfl

theorem queueFree_takeAddressed (terminal tag kind : Byte) (args : List Byte) :
    QueueFree fun s => s.takeAddressed terminal tag kind args := by
  intro s q
  have hreply := (replyQueueFree_reply kind.toNat args).comp queueFree_countDirective s q
  simp only [State.takeAddressed, hreply]
  exact queueFree_enqueue _ _ q

theorem queueFree_dropDirective (terminal : Byte) : QueueFree fun s => s.dropDirective terminal :=
  (queueFree_takeNotice _).comp fun _ _ => rfl

theorem queueFree_takeBroadcast (kind : Byte) : QueueFree fun s => s.takeBroadcast kind :=
  .ite rfl (fun s q => congrArg Reply.node (replyQueueFree_doStopTest.comp queueFree_countDirective s q))
    (.ite rfl (queueFree_takeSnapshot.comp queueFree_countDirective) same)

theorem queueFree_directive (terminal : Byte) (payload : List Byte) :
    QueueFree fun s => s.directive terminal payload := by
  unfold State.directive
  split
  case h_1 =>
    exact .ite rfl (.ite rfl (queueFree_takeAddressed _ _ _ _) (queueFree_dropDirective _))
      (.ite rfl (queueFree_takeBroadcast _) same)
  case h_2 => exact same

/-! ### The section line -/

theorem queueFree_route (c : Byte) (payload : List Byte) : QueueFree fun s => s.route c payload := by
  have hclash : QueueFree fun s => s.takeNotice (notice .idClash s.own) :=
    .reading (k := fun n s => s.takeNotice (notice .idClash n)) State.own rfl fun _ => queueFree_takeNotice _
  unfold State.route
  split
  case h_1 => exact queueFree_directive c payload
  case h_2 => exact .ite rfl hclash same
  case h_3 => exact .ite rfl hclash (queueFree_reportArrives _ payload)
  case h_4 => exact same

theorem queueFree_judgeBad : QueueFree fun s => s.judgeBad :=
  .ite rfl (queueFree_loseStep.comp ((queueFree_takeNotices _).comp fun _ _ => rfl))
    ((queueFree_takeNotice _).comp fun _ _ => rfl)

theorem queueFree_receive (moment : Nat) (c : Byte) (payload : List Byte) :
    QueueFree fun s => s.receive moment c payload :=
  have hgood : QueueFree fun s => s.countGood moment := fun _ _ => rfl
  .ite rfl (.ite rfl ((queueFree_route c payload).comp hgood) queueFree_judgeBad) same

theorem queueFree_receiveBad : QueueFree fun s => s.receiveBad := .ite rfl queueFree_judgeBad same

theorem queueFree_receiveChars (moment : Nat) (chars : List Byte) :
    QueueFree fun s => s.receiveChars moment chars := by
  unfold State.receiveChars
  split
  · exact queueFree_receive _ _ _
  · exact queueFree_receiveBad

theorem queueFree_beginAttempt : QueueFree fun s => s.beginAttempt := by
  refine .ite rfl (fun s q => ?_) same
  simp only [State.withQueue_chooseAttempt]
  split <;> rfl

theorem queueFree_loseBit : QueueFree fun s => s.loseBit :=
  .ite rfl ((queueFree_takeNotice _).comp (queueFree_endAttempt _)) same

theorem queueFree_faultBit : QueueFree fun s => s.faultBit :=
  .ite rfl (queueFree_judgeBad.comp (queueFree_endAttempt _)) same

theorem queueFree_answerDone : QueueFree fun s => s.answerDone := by
  refine .ite rfl (fun s q => ?_) same
  simp only [State.withQueue_handler]
  split
  case h_1 a rest _ =>
    have hleft : QueueFree fun s => { s with handler := { s.handler with queue := rest } } := fun _ _ => rfl
    exact choice rfl rfl ((queueFree_endAttempt .waitIdle).comp hleft s q)
  case h_2 => exact queueFree_endAttempt .waitIdle s q

/-! ### An evaluation -/

theorem queueFree_work (began : Mode) (w : EvalWork) : QueueFree fun s => State.work began s w := by
  cases w with
  | accumulatorClose => exact fun _ _ => rfl
  | staleNotice => exact queueFree_staleNotice began
  | fadeStep => exact queueFree_fadeStep
  | balanceEngine => exact queueFree_balanceWork
  | drawVerifier => exact queueFree_drawWork
  | excitationUnit => exact queueFree_excitationWork
  | couplingObserver => exact queueFree_observeEvaluation

theorem queueFree_takeTableEvent (e : TableEvent) : QueueFree fun s => s.takeTableEvent e := by
  cases e with
  | report moment station payload => exact queueFree_receive _ _ _
  | badFrame => exact queueFree_receiveBad
  | faultyBitAbort => exact queueFree_faultBit
  | watchdogExpiry due => exact queueFree_watchdogDue due

theorem queueFree_workSeeing (began : Mode) (seen : List (Nat × PeerEntry)) (w : EvalWork) :
    QueueFree fun s => s.workSeeing began seen w :=
  have hwork := queueFree_work began w
  have hseen : QueueFree fun s => { s with peers := s.tableSeen seen } := fun _ _ => rfl
  .ite rfl (fun s q => congrArg (fun t : State => { t with peers := s.peers }) (hwork.comp hseen s q)) hwork

/-- The events during a work carry the queue, and the entries read on the way do not depend on it. -/
theorem carriesQueue_takeInterruptions (during : List Interruption) :
    CarriesQueue (fun p q => (p.1.withQueue q, p.2)) fun s => during.foldl State.takeInterruption (s, []) :=
  .foldl (fun _ _ => rfl) (fun i p q => Prod.ext (queueFree_takeTableEvent i.event p.1 q) rfl) during

theorem queueFree_workDuring (began : Mode) (during : List Interruption) (w : EvalWork) :
    QueueFree fun s => State.workDuring began during s w := by
  intro s q
  have hevents := carriesQueue_takeInterruptions (during.filter fun i => decide (i.before = w)) s q
  simp only [State.workDuring, hevents]
  exact queueFree_workSeeing began _ w _ q

theorem queueFree_runWorks (order : List EvalWork) (during : List Interruption) :
    QueueFree fun s => s.runWorks order during :=
  .reading (k := fun began s => (scheduleOf order).foldl (State.workDuring began during) s) (·.control.mode) rfl
    fun began => .foldl same (queueFree_workDuring began during) _

theorem queueFree_fillSlot : QueueFree fun s => s.fillSlot := .ite rfl (queueFree_settleTx.comp fun _ _ => rfl) same

theorem queueFree_evaluated (order : List EvalWork) (during : List Interruption) :
    QueueFree fun s => s.evaluated order during :=
  have hcount : QueueFree fun s => s.countEvaluation := fun _ _ => rfl
  queueFree_fillSlot.comp (queueFree_applyTrim.comp ((queueFree_runWorks order during).comp hcount))

theorem queueFree_takeLate (e : LateEvent) : QueueFree fun s => s.takeLate e := by
  cases e with
  | gateEnd => exact queueFree_gateElapsed
  | torqueFrame chars => exact queueFree_torqueArrives chars
  | torqueGapCutOff => exact queueFree_cutTorque
  | torqueFramingError => exact queueFree_cutTorque
  | goodFrame moment chars => exact queueFree_receiveChars moment chars
  | badFrame => exact queueFree_receiveBad
  | watchdogExpiry due => exact queueFree_watchdogDue due
  | payloadBitLoss => exact queueFree_loseBit
  | faultyBitAbort => exact queueFree_faultBit
  | attempt => exact .ite rfl same queueFree_beginAttempt
  | answerSent => exact queueFree_answerDone

/-! ### The end of START -/

theorem queueFree_enterListen : QueueFree fun s => s.enterListen :=
  have hready : QueueFree fun s =>
      { s with
        startUnit := { s.startUnit with phase := .over, port := .idle }
        line := { s.line with rx := .waitIdle }
        tracker := Tracker.atReset s.image.floorRung } := fun _ _ => rfl
  hready.comp (queueFree_changeMode .listen)

theorem queueFree_startGood (record : List Byte) : QueueFree fun s => s.startGood record :=
  queueFree_enterListen.comp fun _ _ => rfl

theorem queueFree_startBad : QueueFree fun s => s.startBad := (queueFree_takeNotice _).comp fun _ _ => rfl

/-! ### The commands -/

/-- Every command is an operation on the node, and one that carries the queue. -/
theorem exec_queueFree (c : Instr) : ∃ f, (∀ s, exec c s = .next (f s)) ∧ QueueFree f := by
  cases hd : directiveOf c with
  | some d => exact ⟨_, exec_directiveOf hd, queueFree_receive _ _ _⟩
  | none =>
    cases c <;> simp only [directiveOf, reduceCtorEq] at hd
    case hardwareReset => exact ⟨_, fun _ => rfl, fun _ _ => rfl⟩
    case resetPinAsserted => exact ⟨_, fun _ => rfl, fun _ _ => rfl⟩
    case startCheck record =>
      exact ⟨_, fun _ => rfl, .ite rfl (.ite rfl (queueFree_startGood record) queueFree_startBad) same⟩
    case softStartEnd => exact ⟨_, fun _ => rfl, .ite rfl queueFree_enterListen same⟩
    case encoderEdge => exact ⟨_, fun _ => rfl, .ite rfl same fun _ _ => rfl⟩
    case gateEnd => exact ⟨_, fun _ => rfl, queueFree_gateElapsed⟩
    case torqueFrame => exact ⟨_, fun _ => rfl, queueFree_torqueArrives _⟩
    case torqueGapCutOff => exact ⟨_, fun _ => rfl, queueFree_cutTorque⟩
    case torqueFramingError => exact ⟨_, fun _ => rfl, queueFree_cutTorque⟩
    case evaluation course =>
      have hlate : QueueFree fun s => course.late.foldl State.takeLate s := .foldl same queueFree_takeLate _
      exact ⟨_, fun _ => rfl, .ite rfl same (queueFree_formReference.comp (hlate.comp (queueFree_evaluated _ _)))⟩
    case reportArrival => exact ⟨_, fun _ => rfl, queueFree_receive _ _ _⟩
    case goodFrame => exact ⟨_, fun _ => rfl, queueFree_receiveChars _ _⟩
    case badFrame => exact ⟨_, fun _ => rfl, queueFree_receiveBad⟩
    case watchdogExpiry due => exact ⟨_, fun _ => rfl, queueFree_watchdogDue due⟩
    case attempt => exact ⟨_, fun _ => rfl, queueFree_beginAttempt⟩
    case contentionLost => exact ⟨_, fun _ => rfl, .ite rfl (queueFree_endAttempt .receiving) same⟩
    case payloadBitLoss => exact ⟨_, fun _ => rfl, queueFree_loseBit⟩
    case faultyBitAbort => exact ⟨_, fun _ => rfl, queueFree_faultBit⟩
    case reportSent => exact ⟨_, fun _ => rfl, .ite rfl ((queueFree_endAttempt .waitIdle).comp fun _ _ => rfl) same⟩
    case answerSent => exact ⟨_, fun _ => rfl, queueFree_answerDone⟩
    case lineIdle => exact ⟨_, fun _ => rfl, .ite rfl (fun _ _ => rfl) same⟩

/-- Settles O2: a command is an operation that carries the queue, whatever waits in it. -/
theorem commandsIgnoreQueue : Obligations.CommandsIgnoreQueue := by
  intro c s q
  obtain ⟨f, hexec, hf⟩ := exec_queueFree c
  exact ⟨f s, hexec s, hf.pending_eq s, (hexec _).trans (congrArg Host.Outcome.next (hf s q))⟩

end Sys2Proof.Machine
end
